-- ==== Sys2Proof/Word.lean ====
section
/-! DEFINITION. The widths of the block's values (00_scope.md R9, R10, R12; 30_encoding.md R83). -/

namespace Sys2Proof

/-- A byte, a character, a buffer slot, `rx_data` (00_scope.md R10, `BW`). -/
abbrev Byte := BitVec 8

/-- The value of one hex character, 0 to 15 (42_checksum_validator.md R125). -/
abbrev Nibble := BitVec 4

/-- The 24-bit event word `ev[23:0]` (30_encoding.md R83). -/
abbrev EventWord := BitVec 24

/-- The length counter `len` (00_scope.md R10, `LENW`). -/
abbrev FrameLen := BitVec 4

/-- A configuration register number, `cfg_addr` (10_state.md R32). -/
abbrev CfgAddr := BitVec 2

/-- A configuration register's contents (00_scope.md R10, `CFGW`, `SW`). -/
abbrev CfgWord := BitVec 16

/-- A count of time units modulo 2^32 (00_scope.md R10, `TW`). -/
abbrev Time := BitVec 32

/-- The tag identifier as a number (00_scope.md R10, `TAGW`). -/
abbrev TagBits := BitVec 32

/-- The tag identifier as ten ASCII digits (00_scope.md R10, `TAGA`). -/
abbrev TagText := BitVec 80

/-- The port `diag[6:1]`: port bit `k` is bit `k - 1` of the value (10_state.md R32). -/
abbrev DiagBits := BitVec 6

/-- The twelve payload characters, position 0 first (20_memory.md R51, R55). -/
abbrev Payload := Vector Byte 12

end Sys2Proof
end

