-- ==== Sys2Proof/Config.lean ====
section
/-! DEFINITION. The constants the spec fixes (00_scope.md R9, R10) and the one stream of free values.
`TIME_UNIT` (R11) has no value here: the time base is an input, and no rule depends on its length. -/

namespace Sys2Proof.Config

/-- The start marker byte, `START` (00_scope.md R9). -/
def startMarker : Byte := 0x02#8

/-- The end marker byte, `END` (00_scope.md R9). -/
def endMarker : Byte := 0x03#8

/-- The largest byte appended while collecting, `ASCII_MAX` (00_scope.md R9). -/
def asciiMax : Byte := 127#8

/-- Characters of an acceptable frame, `PAYLOAD_LEN` (00_scope.md R9). -/
def payloadLen : FrameLen := 12#4

/-- The value of `len` that stands for "more than 12" (10_state.md R22). -/
def overLength : FrameLen := 13#4

/-- The default stall window, `STALL_DEFAULT` (00_scope.md R9). -/
def stallDefault : CfgWord := 10#16

/-- `dec10(0)`, ten bytes `0x30`: the reset value of `tag_ascii` (10_state.md R20). -/
def zeroTagText : TagText := 0x30303030303030303030#80

/-- The stream of free byte values. `RESET` leaves `buf[0..11]` unspecified (45_host_config.md R162,
93_implementation_defined.md U1): the slots then hold the next twelve bytes of this stream, of which
nothing can be proved (log 5). -/
opaque freeByte : Nat → Byte

end Sys2Proof.Config
end

