-- ==== Sys2Proof/Syntax.lean ====
section
/-! DEFINITION. The block's instructions: its twelve input events (00_scope.md R4, 30_encoding.md R86). -/

namespace Sys2Proof

/-- One event, one constructor per row of opcode_table.json. The mode bit `m` of a byte event is part of
the constructor (Idle for `rxStart` and `rxSkip`, Collecting for the other three), and so is the byte of
`rxStart` and `rxEnd`, which the encoding fixes. -/
inductive Instr where
  /-- `RESET`: every register to its reset value (45_host_config.md R162). -/
  | reset
  /-- `RX.START`: the start marker, seen in Idle (41_frame_decoder.md R108). -/
  | rxStart
  /-- `RX.SKIP`: any other byte `b`, seen in Idle (R109). -/
  | rxSkip (b : Byte)
  /-- `RX.END`: the end marker, seen in Collecting (R114, R115). -/
  | rxEnd
  /-- `RX.NONASCII`: a byte `b` above 127, seen in Collecting (R116). -/
  | rxNonascii (b : Byte)
  /-- `RX.DATA`: a payload byte `b`, seen in Collecting (R112). -/
  | rxData (b : Byte)
  /-- `NODATA`: no byte available (R117). -/
  | nodata
  /-- `TICK`: one time unit has passed (43_watchdog.md R140). -/
  | tick
  /-- `INVOKE`: the host starts a reader invocation (41_frame_decoder.md R105, R106). -/
  | invoke
  /-- `CFGWR(a, d)`: the host writes register `a` (45_host_config.md R158). -/
  | cfgwr (a : CfgAddr) (d : CfgWord)
  /-- `CFGRD(a)`: the host reads register `a` (45_host_config.md R160). -/
  | cfgrd (a : CfgAddr)
  /-- `WAKE`: the watchdog makes its check (43_watchdog.md R141). -/
  | wake
  deriving DecidableEq, Repr

end Sys2Proof
end

