-- ==== Sys2Proof/WellFormed.lean ====
section
/-! DEFINITION. Which events the encoding admits: the byte conditions of 30_encoding.md R81 and R86. -/

namespace Sys2Proof

/-- The operand condition of each event. Only the three byte classes with a byte operand have one. -/
def Instr.wf : Instr → Bool
  | .reset => true
  | .rxStart => true
  | .rxSkip b => b != Config.startMarker
  | .rxEnd => true
  | .rxNonascii b => decide (Config.asciiMax < b)
  | .rxData b => decide (b ≤ Config.asciiMax) && b != Config.endMarker
  | .nodata => true
  | .tick => true
  | .invoke => true
  | .cfgwr _ _ => true
  | .cfgrd _ => true
  | .wake => true

end Sys2Proof
end

