-- ==== Sys2Proof/Decode.lean ====
section
/-! DEFINITION. The byte classes (30_encoding.md R81), the decoder and the encoder of event words (R83, R84),
and opcode_table.json with its first-match reading (R85, R86). -/

namespace Sys2Proof

/-- The class of a received byte (30_encoding.md R81): the event that byte `b` is in the mode `idle`. -/
def classify (idle : Bool) (b : Byte) : Instr :=
  if idle then
    if b = Config.startMarker then .rxStart else .rxSkip b
  else if b = Config.endMarker then .rxEnd
  else if Config.asciiMax < b then .rxNonascii b
  else .rxData b

/-- Bit 8 of a format B word: the mode bit `m` (30_encoding.md R84). -/
def modeBit (w : EventWord) : Bool := w.getLsbD 8

/-- Bits 7:0 of a format B word: the byte taken (R84). -/
def byteField (w : EventWord) : Byte := w.extractLsb' 0 8

/-- Bits 17:16 of a format C word: the register number (R84). -/
def addrField (w : EventWord) : CfgAddr := w.extractLsb' 16 2

/-- Bits 15:0 of a format C word: the write data (R84). -/
def dataField (w : EventWord) : CfgWord := w.extractLsb' 0 16

/-- The event a word stands for, by its `kind`, bits 23, 22, 21 (R83), and its fields (R84). Every word is
some event (R85). The mode bit is the complement of `idle`. -/
def decode (w : EventWord) : Instr :=
  match w.getLsbD 23, w.getLsbD 22, w.getLsbD 21 with
  | false, false, false => classify (!modeBit w) (byteField w)
  | false, false, true => .nodata
  | false, true, false => .tick
  | false, true, true => .invoke
  | true, false, false => .cfgwr (addrField w) (dataField w)
  | true, false, true => .cfgrd (addrField w)
  | true, true, false => .wake
  | true, true, true => .reset

/-- Why a number is no event word. -/
inductive Reject where
  /-- It has a bit above bit 23; an event word has 24 bits (30_encoding.md R83). Safe: such a word does not exist. -/
  | overlongWord
  deriving DecidableEq, Repr

/-- The event of a word given as a number of any size; a number that is no 24-bit word is rejected by name. -/
def decodeNat (n : Nat) : Except Reject Instr :=
  if n < 2 ^ 24 then .ok (decode (BitVec.ofNat 24 n)) else .error .overlongWord

/-- The instruction the decoder reads from the low `nbits` bits of `w`, numbered as opcode_table.json numbers
them, every bit above them 0. An event word is one 24-bit word and stands on no bus (R83), so there is no byte
order to undo (log 19). -/
def decodeTableWord (nbits w : Nat) : Option Instr :=
  match decodeNat (w % 2 ^ nbits) with
  | .ok i => some i
  | .error .overlongWord => none

/-- A format B word (R84): kind 000, the mode bit in bit 8, the byte in bits 7:0, ignored bits 0. -/
def formatB (m : Bool) (b : Byte) : EventWord :=
  ((BitVec.ofBool m).setWidth 24 <<< 8) ||| b.setWidth 24

/-- A format N word (R84): the kind in bits 23:21, ignored bits 0. -/
def formatN (kind : BitVec 3) : EventWord := kind.setWidth 24 <<< 21

/-- A format C word (R84): the kind in bits 23:21, the register number in bits 17:16, the data in bits 15:0, ignored
bits 0. -/
def formatC (kind : BitVec 3) (a : CfgAddr) (d : CfgWord) : EventWord :=
  (kind.setWidth 24 <<< 21) ||| (a.setWidth 24 <<< 16) ||| d.setWidth 24

/-- The word of an event, ignored bits written as 0 (R84). -/
def encode : Instr → EventWord
  | .reset => formatN 0b111#3
  | .rxStart => formatB false Config.startMarker
  | .rxSkip b => formatB false b
  | .rxEnd => formatB true Config.endMarker
  | .rxNonascii b => formatB true b
  | .rxData b => formatB true b
  | .nodata => formatN 0b001#3
  | .tick => formatN 0b010#3
  | .invoke => formatN 0b011#3
  | .cfgwr a d => formatC 0b100#3 a d
  | .cfgrd a => formatC 0b101#3 a 0#16
  | .wake => formatN 0b110#3

/-- The `kind` of an event (R83). -/
def Instr.kind : Instr → BitVec 3
  | .reset => 0b111#3
  | .rxStart => 0b000#3
  | .rxSkip _ => 0b000#3
  | .rxEnd => 0b000#3
  | .rxNonascii _ => 0b000#3
  | .rxData _ => 0b000#3
  | .nodata => 0b001#3
  | .tick => 0b010#3
  | .invoke => 0b011#3
  | .cfgwr _ _ => 0b100#3
  | .cfgrd _ => 0b101#3
  | .wake => 0b110#3

/-- The mnemonic of an event's row in opcode_table.json. -/
def mnemonicOf : Instr → String
  | .reset => "RESET"
  | .rxStart => "RX.START"
  | .rxSkip _ => "RX.SKIP"
  | .rxEnd => "RX.END"
  | .rxNonascii _ => "RX.NONASCII"
  | .rxData _ => "RX.DATA"
  | .nodata => "NODATA"
  | .tick => "TICK"
  | .invoke => "INVOKE"
  | .cfgwr _ _ => "CFGWR"
  | .cfgrd _ => "CFGRD"
  | .wake => "WAKE"

/-- A row of opcode_table.json (30_encoding.md R85): a word fits it when its bits under `mask` are `bits`. -/
structure OpcodeRow where
  /-- The row's mnemonic. -/
  mnemonic : String
  /-- The row's `match` value. -/
  bits : EventWord
  /-- The row's `mask`. -/
  mask : EventWord
  deriving DecidableEq, Repr

/-- Whether a word fits a row (R85). -/
def OpcodeRow.fits (r : OpcodeRow) (w : EventWord) : Bool := w &&& r.mask == r.bits

/-- The rows in ascending priority, 1 to 12 (R86). -/
def opcodeTable : List OpcodeRow :=
  [ ⟨"RESET", 0xE00000#24, 0xE00000#24⟩,
    ⟨"RX.START", 0x000002#24, 0xE001FF#24⟩,
    ⟨"RX.SKIP", 0x000000#24, 0xE00100#24⟩,
    ⟨"RX.END", 0x000103#24, 0xE001FF#24⟩,
    ⟨"RX.NONASCII", 0x000180#24, 0xE00180#24⟩,
    ⟨"RX.DATA", 0x000100#24, 0xE00180#24⟩,
    ⟨"NODATA", 0x200000#24, 0xE00000#24⟩,
    ⟨"TICK", 0x400000#24, 0xE00000#24⟩,
    ⟨"INVOKE", 0x600000#24, 0xE00000#24⟩,
    ⟨"CFGWR", 0x800000#24, 0xE00000#24⟩,
    ⟨"CFGRD", 0xA00000#24, 0xE00000#24⟩,
    ⟨"WAKE", 0xC00000#24, 0xE00000#24⟩ ]

/-- The first row, in ascending priority, that a word fits (R85). -/
def tableRow (w : EventWord) : Option OpcodeRow := opcodeTable.find? (fun r => r.fits w)

end Sys2Proof
end

