-- ==== Sys2Proof/Machine/State.lean ====
section
/-! DEFINITION. The state of the block (10_state.md R20), the inputs a model quantifies over (00_scope.md R17), and the
state after reset (10_state.md R42). -/

namespace Sys2Proof.Machine

/-- The six causes (60_exceptions.md R166). -/
inductive Cause where
  /-- Code 1, `NODATA`; never reported (R167). -/
  | transportTimeout
  /-- Code 2, `RX.SKIP` (R168). -/
  | invalidLeadingByte
  /-- Code 3, `RX.NONASCII` (R169). -/
  | nonAsciiByte
  /-- Code 4, `RX.END` with `len` not 12 (R170). -/
  | lengthMismatch
  /-- Code 5, `RX.END` with a payload that does not validate (R171). -/
  | checksumMismatch
  /-- Code 6, `WAKE` with the stall condition true (R172). -/
  | stallTimeout
  deriving DecidableEq, Repr

/-- One decode-loop event as a trace line or the ports give it: a byte has no class yet (30_encoding.md R94). -/
inductive LoopEvent where
  /-- `INVOKE`. -/
  | invoke
  /-- `RX b`; its class follows from the state (30_encoding.md R81). -/
  | rx (b : Byte)
  /-- `NODATA`. -/
  | nodata
  deriving DecidableEq, Repr

/-- A trace line `CYCLE { ... }` (30_encoding.md R94): at most one event of each kind, applied in the order of
20_memory.md R64 whatever order they are written in. -/
structure CycleEvents where
  /-- Whether the line lists `TICK`. -/
  tick : Bool := false
  /-- The decode-loop event listed, if any. -/
  loop : Option LoopEvent := none
  /-- Whether the line lists `WAKE`. -/
  wake : Bool := false
  /-- The `CFGWR` listed, if any. -/
  cfgwr : Option (CfgAddr × CfgWord) := none
  deriving DecidableEq, Repr

/-- The input ports sampled in one clock cycle (10_state.md R32; `clk` is the step itself). -/
structure Ports where
  /-- `rst`, synchronous reset. -/
  rst : Bool := false
  /-- `invoke`. -/
  invoke : Bool := false
  /-- `rx_valid`. -/
  rxValid : Bool := false
  /-- `rx_data`, meaningful when `rx_valid = 1`. -/
  rxData : Byte := 0#8
  /-- `tick`. -/
  tick : Bool := false
  /-- `cfg_we`. -/
  cfgWe : Bool := false
  /-- `cfg_addr`. -/
  cfgAddr : CfgAddr := 0#2
  /-- `cfg_wdata`. -/
  cfgWdata : CfgWord := 0#16
  deriving DecidableEq, Repr

/-- The output ports during one clock cycle (10_state.md R32). -/
structure Outputs where
  /-- `busy`. -/
  busy : Bool
  /-- `done`. -/
  done : Bool
  /-- `tag_bin`. -/
  tagBin : TagBits
  /-- `tag_ascii`. -/
  tagAscii : TagText
  /-- `rx_ready`. -/
  rxReady : Bool
  /-- `reconnect_req`. -/
  reconnectReq : Bool
  /-- `cfg_rdata`. -/
  cfgRdata : CfgWord
  /-- `diag[6:1]`. -/
  diag : DiagBits
  deriving DecidableEq, Repr

/-- What one step takes from the environment (logs 1, 2 and 18). -/
inductive Input where
  /-- An event word (30_encoding.md R83): a cycle of its own with that one event (R94). -/
  | word (w : EventWord)
  /-- A trace line `CYCLE { ... }` (R94). -/
  | cycle (c : CycleEvents)
  /-- One clock cycle with these sampled ports (20_memory.md R65). -/
  | ports (p : Ports)
  deriving DecidableEq, Repr

/-- The whole state of the block (10_state.md R20), and after it the three fields of the model's own. -/
structure State where
  /-- `buf[0..11]`, the frame buffer (R21). -/
  buf : Payload
  /-- `len`, 0 to 12, 13 for "more than 12" (R22). -/
  len : FrameLen
  /-- `idle`: true in Idle, false in Collecting (R24). -/
  idle : Bool
  /-- `last_rx_time` (R26). -/
  lastRxTime : Time
  /-- `now` (R27). -/
  now : Time
  /-- `run`: a reader invocation is active (R25). -/
  run : Bool
  /-- `STALL_WINDOW`, register 0 (R36). -/
  stallWindow : CfgWord
  /-- `LOG_EN`, register 1 bit 0 (R37). -/
  logEn : Bool
  /-- `tag_bin` (R30). -/
  tagBin : TagBits
  /-- `tag_ascii` (R30). -/
  tagAscii : TagText
  /-- `tagv` (R29). -/
  tagv : Bool
  /-- The pulse register `done` (R31). -/
  done : Bool
  /-- The pulse register `reconnect_req` (R31). -/
  reconnectReq : Bool
  /-- The pulse register `diag[6:1]` (R31). -/
  diag : DiagBits
  /-- The MODEL's own: the inputs still to come, oldest first (log 1). -/
  inputs : List Input
  /-- The MODEL's own: what the last `CFGRD` returned (45_host_config.md R160, log 10). -/
  lastRead : Option CfgWord
  /-- The MODEL's own: where the next `RESET` reads the stream of free bytes (logs 5 and 6). -/
  freeIndex : Nat
  deriving DecidableEq, Repr

/-- The reasons the machine stops with a fault: none. "There is no fatal condition and no stuck state"
(60_exceptions.md R187), so the type has no constructor (log 14). -/
inductive Fault where
  deriving DecidableEq, Repr

/-- The reasons an instruction is refused. -/
inductive Refusal where
  /-- Raised by `exec` for an event without a meaning yet. No arm of `exec` raises it now. Safe. -/
  | notModelled (mnemonic : String)
  deriving DecidableEq, Repr

/-- The machine right after reset (10_state.md R42, 70_reset_and_hazards.md R190). `buf` is unspecified there; the
zeros are the model's choice (log 4). The last three fields are the model's own (logs 1, 10 and 6). -/
def State.reset : State where
  buf := Vector.replicate 12 0#8
  len := 0#4
  idle := true
  lastRxTime := 0#32
  now := 0#32
  run := false
  stallWindow := Config.stallDefault
  logEn := false
  tagBin := 0#32
  tagAscii := Config.zeroTagText
  tagv := false
  done := false
  reconnectReq := false
  diag := 0#6
  inputs := []
  lastRead := none
  freeIndex := 0

end Sys2Proof.Machine
end

