-- ==== Sys2Proof/Machine/Flags.lean ====
section
/-! DEFINITION. The values computed from the state alone: the handshake, the stall condition, the readable registers and
the output ports (10_state.md R32 to R40, 43_watchdog.md R142). -/

namespace Sys2Proof.Machine

/-- `busy = run` (10_state.md R34). -/
def State.busy (s : State) : Bool := s.run

/-- `rx_ready = run ∧ ¬reconnect_req` (10_state.md R33). -/
def State.rxReady (s : State) : Bool := s.run && !s.reconnectReq

/-- Time units since the last byte, modulo 2^32 (43_watchdog.md R142). -/
def State.elapsed (s : State) : Time := s.now - s.lastRxTime

/-- The stall condition (43_watchdog.md R142); "exceeds" is strict. -/
def State.stall (s : State) : Bool :=
  s.run && !s.idle && decide (s.stallWindow.setWidth 32 < s.elapsed)

/-- Register 1, `CTRL`: bit 0 is `LOG_EN`, the rest reads 0 (10_state.md R37). -/
def State.ctrl (s : State) : CfgWord := (BitVec.ofBool s.logEn).setWidth 16

/-- Register 2, `STATUS`: `zext_16(tagv ‖ len ‖ idle ‖ run)` (10_state.md R38, 45_host_config.md R160). -/
def State.status (s : State) : CfgWord :=
  (BitVec.ofBool s.tagv ++ s.len ++ BitVec.ofBool s.idle ++ BitVec.ofBool s.run).setWidth 16

/-- The value register `a` reads as (45_host_config.md R160); register 3 is reserved and reads 0. -/
def State.readCfg (s : State) (a : CfgAddr) : CfgWord :=
  if a = 0#2 then s.stallWindow
  else if a = 1#2 then s.ctrl
  else if a = 2#2 then s.status
  else 0#16

/-- The output ports during a cycle that begins in state `s` with `cfg_addr = a` (20_memory.md R65). -/
def State.outputs (s : State) (a : CfgAddr) : Outputs where
  busy := s.busy
  done := s.done
  tagBin := s.tagBin
  tagAscii := s.tagAscii
  rxReady := s.rxReady
  reconnectReq := s.reconnectReq
  cfgRdata := s.readCfg a
  diag := s.diag

end Sys2Proof.Machine
end

