-- ==== Sys2Proof/Machine/Operands.lean ====
section
/-! DEFINITION. The checksum validator and the tag identifier functions (42_checksum_validator.md R125 to R132).
A function the spec defines only on some arguments answers `none` outside them (log 15). -/

namespace Sys2Proof.Machine

/-- `hexval(c)`: the value of a hex character (R125). -/
def hexval (c : Byte) : Option Nibble :=
  if 0x30#8 ≤ c ∧ c ≤ 0x39#8 then some ((c - 0x30#8).setWidth 4)
  else if 0x41#8 ≤ c ∧ c ≤ 0x46#8 then some ((c - 0x41#8 + 10#8).setWidth 4)
  else if 0x61#8 ≤ c ∧ c ≤ 0x66#8 then some ((c - 0x61#8 + 10#8).setWidth 4)
  else none

/-- `ishex(c)` (R125). -/
def ishex (c : Byte) : Bool := (hexval c).isSome

/-- Two characters as one byte, the first the high nibble (20_memory.md R56, 42_checksum_validator.md R126). -/
def hexPair (hi lo : Byte) : Option Byte :=
  match hexval hi, hexval lo with
  | some h, some l => some (h ++ l)
  | _, _ => none

/-- `pair(p, i)`: the byte written by the characters at positions `2i` and `2i + 1` (R126). -/
def pair (p : Payload) (i : Fin 6) : Option Byte := hexPair p[2 * i.val] p[2 * i.val + 1]

/-- `xorfold(p)`: the XOR of pairs 0 to 4 (R127). -/
def xorfold (p : Payload) : Option Byte :=
  match pair p 0, pair p 1, pair p 2, pair p 3, pair p 4 with
  | some a, some b, some c, some d, some e => some (a ^^^ b ^^^ c ^^^ d ^^^ e)
  | _, _, _, _, _ => none

/-- Whether all twelve characters are hex characters (R129, R130). -/
def allHex (p : Payload) : Bool := p.toList.all ishex

/-- `checksum_valid(p)`, total on twelve bytes (R129, R130). -/
def checksumValid (p : Payload) : Bool := allHex p && xorfold p == pair p 5

/-- `tag_value(p)`: pairs 1 to 4 joined, position 2 the most significant character (R131). -/
def tagValue (p : Payload) : Option TagBits :=
  match pair p 1, pair p 2, pair p 3, pair p 4 with
  | some a, some b, some c, some d => some (a ++ b ++ c ++ d)
  | _, _, _, _ => none

/-- The identifier of a payload that validates; `none` for one that does not. The spec uses `tag_value` only
after `checksum_valid` (R131). -/
def validTag (p : Payload) : Option TagBits := if checksumValid p then tagValue p else none

/-- `digit(t, j)`: decimal digit `j` of `t`, digit 0 the most significant of ten (R132). -/
def decDigit (t : TagBits) (j : Nat) : Nat := t.toNat / 10 ^ (9 - j) % 10

/-- `byte(0x30 + digit(t, j))` (R132). -/
def digitChar (t : TagBits) (j : Nat) : Byte := BitVec.ofNat 8 (0x30 + decDigit t j)

/-- `dec10(t)`: ten ASCII decimal digits, digit 0 in bits 79 to 72 (R132). -/
def dec10 (t : TagBits) : TagText :=
  digitChar t 0 ++ digitChar t 1 ++ digitChar t 2 ++ digitChar t 3 ++ digitChar t 4 ++
  digitChar t 5 ++ digitChar t 6 ++ digitChar t 7 ++ digitChar t 8 ++ digitChar t 9

/-- The upper-case hex character of a nibble, as `GOODFRAME` writes it (30_encoding.md R95). -/
def hexChar (n : Nibble) : Byte :=
  if n ≤ 9#4 then 0x30#8 + n.setWidth 8 else 0x41#8 + (n.setWidth 8 - 10#8)

end Sys2Proof.Machine
end

