-- ==== Sys2Proof/Machine/Ops.lean ====
section
/-! DEFINITION. The named operations on the state: the frame buffer, the pulse registers, the decoder state, taking a
cause (60_exceptions.md R176) and emitting a tag (41_frame_decoder.md R115). -/

namespace Sys2Proof.Machine

/-- What one event answers. -/
abbrev Answer := Host.Outcome State Fault Refusal

/-- Continue with `f` if `o` is a next state. -/
def Answer.andThen (o : Answer) (f : State → Answer) : Answer :=
  match o with
  | .next s => f s
  | .fault r => .fault r
  | .refused r => .refused r

/-- `MemWrite(i, 1, b)`: `buf[i] <- b` (20_memory.md R52). Used with `i < 12` only; no other address exists. -/
def State.writeSlot (s : State) (i : Nat) (b : Byte) : State := { s with buf := s.buf.setIfInBounds i b }

/-- `MemRead(0, 12)`: the twelve slots, slot 0 first (20_memory.md R53). -/
def State.readFrame (s : State) : Payload := s.buf

/-- `last_rx_time <- now` (10_state.md R26). -/
def State.stamp (s : State) : State := { s with lastRxTime := s.now }

/-- `idle <- 1; len <- 0`: empty-idle (10_state.md R28). -/
def State.toIdle (s : State) : State := { s with idle := true, len := 0#4 }

/-- `len <- 0; idle <- 0`: begin a frame (41_frame_decoder.md R108). -/
def State.beginFrame (s : State) : State := { s with idle := false, len := 0#4 }

/-- The clock edge: the pulse registers are cleared (10_state.md R31, 20_memory.md R64 step 2). -/
def State.clearPulses (s : State) : State := { s with done := false, reconnectReq := false, diag := 0#6 }

/-- `pulse done`. -/
def State.pulseDone (s : State) : State := { s with done := true }

/-- `pulse reconnect_req`. -/
def State.pulseReconnect (s : State) : State := { s with reconnectReq := true }

/-- The code of a cause (60_exceptions.md R166). -/
def Cause.code : Cause → Nat
  | .transportTimeout => 1
  | .invalidLeadingByte => 2
  | .nonAsciiByte => 3
  | .lengthMismatch => 4
  | .checksumMismatch => 5
  | .stallTimeout => 6

/-- Port bit `diag[k]` alone, `k` the cause's code (30_encoding.md R92). -/
def Cause.diagBit (k : Cause) : DiagBits := 1#6 <<< (k.code - 1)

/-- `if LOG_EN = 1 then pulse diag[k]`. -/
def State.logCause (s : State) (k : Cause) : State :=
  { s with diag := if s.logEn then s.diag ||| k.diagBit else s.diag }

/-- `raise Cause(k)`: the discard path (60_exceptions.md R176). Nothing is saved and control goes nowhere but to
Idle (R175); there is no return (R177). Cause 1 has no effect (R167); cause 2 has no frame to destroy. -/
def raiseCause (k : Cause) (s : State) : State :=
  match k with
  | .transportTimeout => s
  | .invalidLeadingByte => s.logCause k
  | .nonAsciiByte => s.toIdle.pulseReconnect.logCause k
  | .lengthMismatch => s.toIdle.logCause k
  | .checksumMismatch => s.toIdle.logCause k
  | .stallTimeout => s.toIdle.pulseReconnect.stamp.logCause k

/-- Emit, the successful outcome of `RX.END` (41_frame_decoder.md R115): the result registers, `tagv`, `done`, and the
end of the invocation. -/
def emit (t : TagBits) (s : State) : State :=
  { s.toIdle.pulseDone with tagBin := t, tagAscii := dec10 t, tagv := true, run := false }

/-- The append of `RX.DATA` (41_frame_decoder.md R112): store below twelve characters, count only from there on. -/
def appendChar (b : Byte) (s : State) : State :=
  if s.len < Config.payloadLen then { s.writeSlot s.len.toNat b with len := s.len + 1#4 }
  else { s with len := Config.overLength }

/-- What the end marker does with the frame (41_frame_decoder.md R114): the length is tested first. -/
def closeFrame (s : State) : State :=
  if s.len = Config.payloadLen then
    match validTag s.readFrame with
    | some t => emit t s
    | none => raiseCause .checksumMismatch s
  else raiseCause .lengthMismatch s

/-- A byte event of one mode (41_frame_decoder.md R107): its guard is `run = 1` and the mode; it stamps the time and then
has its own effect. Where the guard is false the event does not happen (logs 7 and 8). -/
def takeByte (mode : Bool) (effect : State → State) (s : State) : Answer :=
  .next (if s.run && s.idle == mode then effect s.stamp else s)

/-- Twelve bytes of the stream of free values, from `n` on (log 5). -/
def freeSlots (n : Nat) : Payload := Vector.ofFn fun i => Config.freeByte (n + i.val)

end Sys2Proof.Machine
end

