-- ==== Sys2Proof/Machine/DecodeLoop.lean ====
section
/-! DEFINITION. The events of the decode loop (41_frame_decoder.md R105 to R117): one meaning each. -/

namespace Sys2Proof.Machine

/-- `INVOKE` (R105); while `run = 1` it does not happen (R106). -/
def execInvoke (s : State) : Answer :=
  .next (if s.run then s else { s.toIdle.stamp with run := true, tagv := false })

/-- `RX.START` (R108). -/
def execRxStart (s : State) : Answer := takeByte true State.beginFrame s

/-- `RX.SKIP` (R109): the byte is dropped, cause 2. -/
def execRxSkip (_b : Byte) (s : State) : Answer := takeByte true (raiseCause .invalidLeadingByte) s

/-- `RX.DATA` (R112). -/
def execRxData (b : Byte) (s : State) : Answer := takeByte false (appendChar b) s

/-- `RX.END` (R114, R115). -/
def execRxEnd (s : State) : Answer := takeByte false closeFrame s

/-- `RX.NONASCII` (R116): the frame is discarded, the byte is never stored, cause 3. -/
def execRxNonascii (_b : Byte) (s : State) : Answer := takeByte false (raiseCause .nonAsciiByte) s

/-- `NODATA` (R117): cause 1, which has no effect (60_exceptions.md R167). -/
def execNodata (s : State) : Answer := .next (raiseCause .transportTimeout s)

end Sys2Proof.Machine
end

