-- ==== Sys2Proof/Machine/HostConfig.lean ====
section
/-! DEFINITION. The host's events that are not `INVOKE` (45_host_config.md R158 to R162). -/

namespace Sys2Proof.Machine

/-- `CFGWR(a, d)` (R158): registers 2 and 3 ignore a write. -/
def execCfgwr (a : CfgAddr) (d : CfgWord) (s : State) : Answer :=
  .next (if a = 0#2 then { s with stallWindow := d }
    else if a = 1#2 then { s with logEn := d.getLsbD 0 }
    else s)

/-- `CFGRD(a)` (R160): no effect on the block; the value returned is kept in the model's own field `lastRead` (log 10). -/
def execCfgrd (a : CfgAddr) (s : State) : Answer := .next { s with lastRead := some (s.readCfg a) }

/-- `RESET` (R162): every element to its reset value, `buf` to unspecified values (log 5). The inputs still to come and
the value last read are the environment's and stay. -/
def execReset (s : State) : Answer :=
  .next { State.reset with
    buf := freeSlots s.freeIndex
    inputs := s.inputs
    lastRead := s.lastRead
    freeIndex := s.freeIndex + 12 }

end Sys2Proof.Machine
end

