-- ==== Sys2Proof/Machine/Watchdog.lean ====
section
/-! DEFINITION. The two events of time (43_watchdog.md R140 to R143). -/

namespace Sys2Proof.Machine

/-- `TICK` (R140): `now` advances modulo 2^32. -/
def execTick (s : State) : Answer := .next { s with now := s.now + 1#32 }

/-- `WAKE` (R141): if the stall condition holds (R142), fire (R143). -/
def execWake (s : State) : Answer := .next (if s.stall then raiseCause .stallTimeout s else s)

end Sys2Proof.Machine
end

