-- ==== Sys2Proof/Machine/Dispatch.lean ====
section
/-! DEFINITION. One event, one atomic step (00_scope.md R4): each event to its meaning. -/

namespace Sys2Proof.Machine

def exec (i : Instr) (s : State) : Host.Outcome State Fault Refusal :=
  match i with
  | .reset => Sys2Proof.Machine.execReset s
  | .rxStart => Sys2Proof.Machine.execRxStart s
  | .rxSkip b => Sys2Proof.Machine.execRxSkip b s
  | .rxEnd => Sys2Proof.Machine.execRxEnd s
  | .rxNonascii b => Sys2Proof.Machine.execRxNonascii b s
  | .rxData b => Sys2Proof.Machine.execRxData b s
  | .nodata => Sys2Proof.Machine.execNodata s
  | .tick => Sys2Proof.Machine.execTick s
  | .invoke => Sys2Proof.Machine.execInvoke s
  | .cfgwr a d => Sys2Proof.Machine.execCfgwr a d s
  | .cfgrd a => Sys2Proof.Machine.execCfgrd a s
  | .wake => Sys2Proof.Machine.execWake s

end Sys2Proof.Machine
end

