-- ==== Sys2Proof/Machine/Cycle.lean ====
section
/-! DEFINITION. The cycle level (20_memory.md R64, R65): which events one clock cycle produces, in which order, and what
they do together; and the same for a trace line (30_encoding.md R94). -/

namespace Sys2Proof.Machine

/-- Events applied one after another, each to the state the ones before it left (20_memory.md R60). -/
def runEvents : List Instr → State → Answer
  | [], s => .next s
  | i :: is, s => Answer.andThen (exec i s) (runEvents is)

/-- The event of a decode-loop event in state `s`: a byte's class follows from `idle` (30_encoding.md R81). -/
def LoopEvent.instr (e : LoopEvent) (s : State) : Instr :=
  match e with
  | .invoke => .invoke
  | .rx b => classify s.idle b
  | .nodata => .nodata

/-- The events of a cycle that begins in state `s`, in the order of 20_memory.md R64 steps 3 to 6. The class of a byte
is read at the start of the cycle; `TICK`, the only event before it, does not change `idle`. -/
def CycleEvents.instrs (c : CycleEvents) (s : State) : List Instr :=
  (if c.tick then [Instr.tick] else []) ++
  (match c.loop with
    | some e => [e.instr s]
    | none => []) ++
  (if c.wake then [Instr.wake] else []) ++
  (match c.cfgwr with
    | some (a, d) => [Instr.cfgwr a d]
    | none => [])

/-- One clock cycle with the events `c`: the pulses are cleared, then the events happen (R64 steps 2 to 6). -/
def runCycle (c : CycleEvents) (s : State) : Answer := runEvents (c.instrs s) s.clearPulses

/-- The decode-loop event the ports produce (R64 step 4; 10_state.md R33, R34). -/
def portLoop (p : Ports) (s : State) : Option LoopEvent :=
  if p.invoke && !s.run then some .invoke
  else if s.rxReady && p.rxValid then some (.rx p.rxData)
  else if s.rxReady then some .nodata
  else none

/-- The events the ports produce in a cycle without reset: `tick` produces `TICK` and `WAKE` (10_state.md R35), `cfg_we`
produces `CFGWR` (R40). -/
def portEvents (p : Ports) (s : State) : CycleEvents where
  tick := p.tick
  loop := portLoop p s
  wake := p.tick
  cfgwr := if p.cfgWe then some (p.cfgAddr, p.cfgWdata) else none

/-- The cycle function of the ports (R65): under `rst` only `RESET`. -/
def portCycle (p : Ports) (s : State) : Answer :=
  if p.rst then exec .reset s else runCycle (portEvents p s) s

/-- An event word as a trace line: a cycle of its own with that one event (30_encoding.md R94, log 2). -/
def runWord (w : EventWord) (s : State) : Answer := exec (decode w) s.clearPulses

/-- What one input does. -/
def Input.run (x : Input) (s : State) : Answer :=
  match x with
  | .word w => runWord w s
  | .cycle c => runCycle c s
  | .ports p => portCycle p s

end Sys2Proof.Machine
end

