-- ==== Sys2Proof/Machine/Step.lean ====
section
/-! DEFINITION. One step: the oldest input is taken and has its effect (log 1). -/

namespace Sys2Proof.Machine

/-- The state with other inputs to come. -/
def State.withInputs (s : State) (xs : List Input) : State := { s with inputs := xs }

/-- One step of the machine. With no input to come nothing happens (log 3). -/
def step (s : State) : Host.Outcome State Fault Refusal :=
  match s.inputs with
  | [] => .next s
  | x :: xs => x.run (s.withInputs xs)

/-- `s` with the event word whose low `nbits` bits are those of `w`, the bits above them 0, as the very next input. -/
def State.withFetchWord (s : State) (nbits w : Nat) : State :=
  s.withInputs (.word (BitVec.ofNat 24 (w % 2 ^ nbits)) :: s.inputs)

end Sys2Proof.Machine
end

