-- ==== Sys2Proof/Machine/Trace.lean ====
section
/-! DEFINITION. The trace lines and pseudo-events of the spec as inputs (30_encoding.md R94, R95). A line outside `CYCLE`
is a cycle of its own with that one event. -/

namespace Sys2Proof.Machine.Trace

/-- `RESET`. -/
def reset : Input := .word (encode .reset)

/-- `CFGRD a`. -/
def cfgrd (a : CfgAddr) : Input := .word (encode (.cfgrd a))

/-- `RX b`: the class follows from the state. -/
def rx (b : Byte) : Input := .cycle { loop := some (.rx b) }

/-- `INVOKE`. -/
def invoke : Input := .cycle { loop := some .invoke }

/-- `NODATA`. -/
def nodata : Input := .cycle { loop := some .nodata }

/-- `TICK`. -/
def tick : Input := .cycle { tick := true }

/-- `WAKE`. -/
def wake : Input := .cycle { wake := true }

/-- `CFGWR a, d`. -/
def cfgwr (a : CfgAddr) (d : CfgWord) : Input := .cycle { cfgwr := some (a, d) }

/-- `CYCLE { }`: only the pulses are cleared. -/
def empty : Input := .cycle {}

/-- `STR "c0c1...cn"`. -/
def str (cs : List Byte) : List Input := cs.map rx

/-- `FRAME "c0...cn"`: the start marker, the characters, the end marker. -/
def frame (cs : List Byte) : List Input := rx Config.startMarker :: str cs ++ [rx Config.endMarker]

/-- `UNIT`: `CYCLE { TICK; WAKE }`. -/
def unit : Input := .cycle { tick := true, wake := true }

/-- `UNITS n`. -/
def units (n : Nat) : List Input := List.replicate n unit

/-- The two checksum characters of ten data characters, in upper case (42_checksum_validator.md R128); `none` where a
data character is not a hex character, on which the spec defines no checksum. -/
def checkChars (d : Vector Byte 10) : Option (Byte × Byte) :=
  match xorfold (d ++ (Vector.replicate 2 0x30#8 : Vector Byte 2)) with
  | some f => some (hexChar (f.extractLsb' 4 4), hexChar (f.extractLsb' 0 4))
  | none => none

/-- `GOODFRAME "d0...d9"` (R95). -/
def goodFrame (d : Vector Byte 10) : Option (List Input) :=
  match checkChars d with
  | some (k0, k1) => some (frame (d.toList ++ [k0, k1]))
  | none => none

end Sys2Proof.Machine.Trace
end

