-- ==== Sys2Proof/Safety.lean ====
section
/-! DEFINITION. What a good state is: the invariants of 10_state.md R43 and what the rules say of the pulse registers
between two cycles. -/

namespace Sys2Proof.Machine

/-- The invariants 1 to 5 of 10_state.md R43. Item 6 is about two states and is stated of `step`. -/
structure State.Inv (s : State) : Prop where
  /-- Item 1. -/
  idle_empty : s.idle = true → s.len = 0#4
  /-- Item 2. -/
  stopped_idle : s.run = false → s.idle = true
  /-- Item 3. -/
  len_le : s.len ≤ 13#4
  /-- Item 4. -/
  tag_agrees : s.tagAscii = dec10 s.tagBin
  /-- Item 5. -/
  tagv_stopped : s.tagv = true → s.run = false

/-- What the pulse registers can show in any cycle: at most one bit of `diag`, never bit 1 (60_exceptions.md R167, R173);
`done` only right after an Emit, `reconnect_req` only in Idle of a running invocation (44_reconnect.md R152). -/
structure State.PulseInv (s : State) : Prop where
  /-- At most one cause is reported, and not cause 1. -/
  one_cause : s.diag = 0#6 ∨ ∃ k : Cause, k ≠ .transportTimeout ∧ s.diag = k.diagBit
  /-- `done` is shown only with a valid tag and no invocation. -/
  done_tag : s.done = true → s.tagv = true ∧ s.run = false
  /-- `reconnect_req` is shown only in Idle while an invocation runs. -/
  reconnect_idle : s.reconnectReq = true → s.run = true ∧ s.idle = true

/-- The time since the last byte of a frame in progress fits in sixteen bits (43_watchdog.md R146). -/
def State.ElapsedBounded (s : State) : Prop :=
  s.run = true → s.idle = false → s.elapsed.toNat ≤ 65535

/-- Two states that agree on all but the logging flag, the report it governs, and what the host has read
(10_state.md R37). -/
def State.SameButLog (s t : State) : Prop :=
  t = { s with logEn := t.logEn, diag := t.diag, lastRead := t.lastRead }

/-- Two states that agree on all but the slots at or above `len`: by 10_state.md R23 the same state. -/
def State.SameFrame (s t : State) : Prop :=
  t = { s with buf := t.buf } ∧ ∀ i : Fin 12, i.val < s.len.toNat → t.buf[i] = s.buf[i]

end Sys2Proof.Machine
end

