-- ==== Sys2Proof/Certificates/Slice0/Obligations.lean ====
section
/-! DEFINITION. The statements for the provers, from the numbered rules of the spec. -/

open Sys2Proof Sys2Proof.Machine

/-- hexval gives the value of the 22 hex characters and none elsewhere (stated; R125). -/
def Obligations.HexvalIsTheHexDigitTable : Prop :=
  (∀ c : Byte, (hexval c).map BitVec.toNat =
    if 0x30 ≤ c.toNat ∧ c.toNat ≤ 0x39 then some (c.toNat - 0x30)
    else if 0x41 ≤ c.toNat ∧ c.toNat ≤ 0x46 then some (c.toNat - 0x41 + 10)
    else if 0x61 ≤ c.toNat ∧ c.toNat ≤ 0x66 then some (c.toNat - 0x61 + 10)
    else none) ∧
  (∀ c : Byte, ishex c = true ↔ hexval c ≠ none) ∧
  ((List.range 256).filter fun n => ishex (BitVec.ofNat 8 n)).length = 22

/-- pair(p, i) is 16 times the first hex digit plus the second (stated; R126). -/
def Obligations.PairHighNibbleFirst : Prop :=
  ∀ (p : Payload) (i : Fin 6),
    ∀ h l : Nibble, hexval p[2 * i.val] = some h → hexval p[2 * i.val + 1] = some l →
      ∃ v : Byte, pair p i = some v ∧ v.toNat = 16 * h.toNat + l.toNat

/-- xorfold(p) is the XOR of pairs 0 to 4, bit by bit their parity (stated; R127). -/
def Obligations.XorfoldIsParityOfFivePairs : Prop :=
  ∀ (p : Payload) (a b c d e : Byte),
    pair p 0 = some a → pair p 1 = some b → pair p 2 = some c → pair p 3 = some d → pair p 4 = some e →
    ∃ f : Byte, xorfold p = some f ∧ f = a ^^^ b ^^^ c ^^^ d ^^^ e ∧
      ∀ j : Fin 8, f.getLsbD j.val =
        decide (((a.getLsbD j.val).toNat + (b.getLsbD j.val).toNat + (c.getLsbD j.val).toNat +
          (d.getLsbD j.val).toNat + (e.getLsbD j.val).toNat) % 2 = 1)

/-- checksum_valid(p) holds exactly when all twelve are hex characters and the fold equals pair 5 (stated; R129). -/
def Obligations.ChecksumValidExactlyWhenFoldMatches : Prop :=
  ∀ p : Payload, checksumValid p = true ↔
    (∀ i : Fin 12, hexval p[i.val] ≠ none) ∧ ∃ f : Byte, xorfold p = some f ∧ pair p 5 = some f

/-- A 12-character frame with a character that is not a hex character raises ChecksumMismatch (stated; R130). -/
def Obligations.NonHexFrameIsDiscarded : Prop :=
  (∀ (p : Payload) (i : Fin 12), hexval p[i.val] = none → checksumValid p = false) ∧
  ∀ (s : State) (i : Fin 12), s.run = true → s.idle = false → s.len = 12#4 → hexval s.buf[i.val] = none →
    exec .rxEnd s = .next { s with
      lastRxTime := s.now, idle := true, len := 0#4,
      diag := if s.logEn then s.diag ||| 0b010000#6 else s.diag }

/-- tag_value(p) is the hexadecimal number of positions 2 to 9, that is pairs 1 to 4 joined (stated; R131). -/
def Obligations.TagValueIsPositionsTwoToNine : Prop :=
  ∀ (p : Payload) (d : Fin 8 → Nibble), (∀ k : Fin 8, hexval p[2 + k.val] = some (d k)) →
    ∃ (t : TagBits) (a b c e : Byte), tagValue p = some t ∧
      t.toNat = ∑ k : Fin 8, (d k).toNat * 16 ^ (7 - k.val) ∧
      pair p 1 = some a ∧ pair p 2 = some b ∧ pair p 3 = some c ∧ pair p 4 = some e ∧
      t = a ++ b ++ c ++ e

/-- dec10(t) is the ten-digit zero-padded decimal string of t, nothing truncated, injective (stated; R132). -/
def Obligations.Dec10IsTenDigitDecimal : Prop :=
  (∀ (t : TagBits) (j : Fin 10),
    (dec10 t).extractLsb' (72 - 8 * j.val) 8 = BitVec.ofNat 8 (0x30 + t.toNat / 10 ^ (9 - j.val) % 10)) ∧
  (∀ t : TagBits, ∑ j : Fin 10, t.toNat / 10 ^ (9 - j.val) % 10 * 10 ^ (9 - j.val) = t.toNat) ∧
  (∀ t : TagBits, t.toNat / 10 ^ 9 % 10 ≤ 4) ∧
  Function.Injective dec10

/-- Changing one hex character of a valid payload to another hex value makes it invalid (derived;
42_checksum_validator.md section 5). The spec's own inference (R136 is marked derived there), item 1. -/
def Obligations.OneChangedDigitInvalidates : Prop :=
  ∀ (p : Payload) (i : Fin 12) (c : Byte), checksumValid p = true → hexval c ≠ none →
    (hexval c ≠ hexval p[i.val] → checksumValid (p.set i.val c) = false) ∧
    (hexval c = hexval p[i.val] → checksumValid (p.set i.val c) = true)

/-- Exchanging two whole pairs among pairs 0 to 4 keeps the verdict (derived; 42_checksum_validator.md section 5).
The spec's own inference (R136 is marked derived there), item 2. -/
def Obligations.SwappedDataPairsStayValid : Prop :=
  ∀ (p q : Payload) (i j : Fin 5),
    (∀ k : Fin 5, q[2 * k.val] = p[2 * (Equiv.swap i j k).val] ∧
      q[2 * k.val + 1] = p[2 * (Equiv.swap i j k).val + 1]) →
    q[10] = p[10] → q[11] = p[11] → checksumValid q = checksumValid p

/-- XOR-ing one value into two different pairs, the field among them, keeps the verdict (derived;
42_checksum_validator.md section 5). The spec's own inference (R136 is marked derived there), item 3. -/
def Obligations.SameMaskInTwoPairsKeepsVerdict : Prop :=
  ∀ (p q : Payload) (a b : Fin 6 → Byte) (i j : Fin 6) (v : Byte),
    (∀ k, pair p k = some (a k)) → (∀ k, pair q k = some (b k)) → i ≠ j →
    b i = a i ^^^ v → b j = a j ^^^ v → (∀ k, k ≠ i → k ≠ j → b k = a k) →
    checksumValid q = checksumValid p

/-- Decoding the word of a well-formed event gives the event back (derived; 30_encoding.md section 4). -/
def Obligations.DecodeEncodeRoundTrip : Prop :=
  ∀ i : Instr, i.wf = true → decode (encode i) = i

/-- The three formats: their fields, and every unnamed bit ignored when read and 0 when written (stated; R84). -/
def Obligations.DecoderReadsNamedBitsOnly : Prop :=
  ∀ w : EventWord,
    (w.extractLsb' 21 3 = 0b000#3 → decode w = classify (!w.getLsbD 8) (w.extractLsb' 0 8) ∧
      encode (decode w) = w &&& 0xE001FF#24) ∧
    (w.extractLsb' 21 3 = 0b001#3 → decode w = .nodata ∧ encode (decode w) = w &&& 0xE00000#24) ∧
    (w.extractLsb' 21 3 = 0b010#3 → decode w = .tick ∧ encode (decode w) = w &&& 0xE00000#24) ∧
    (w.extractLsb' 21 3 = 0b011#3 → decode w = .invoke ∧ encode (decode w) = w &&& 0xE00000#24) ∧
    (w.extractLsb' 21 3 = 0b100#3 → decode w = .cfgwr (w.extractLsb' 16 2) (w.extractLsb' 0 16) ∧
      encode (decode w) = w &&& 0xE3FFFF#24) ∧
    (w.extractLsb' 21 3 = 0b101#3 → decode w = .cfgrd (w.extractLsb' 16 2) ∧
      encode (decode w) = w &&& 0xE30000#24) ∧
    (w.extractLsb' 21 3 = 0b110#3 → decode w = .wake ∧ encode (decode w) = w &&& 0xE00000#24) ∧
    (w.extractLsb' 21 3 = 0b111#3 → decode w = .reset ∧ encode (decode w) = w &&& 0xE00000#24)

/-- The first row of the opcode table that a word fits is the row of the event it decodes to (stated; R85, R86). -/
def Obligations.OpcodeTableAgreesWithDecoder : Prop :=
  opcodeTable =
    [ ⟨"RESET", 0xE00000#24, 0xE00000#24⟩, ⟨"RX.START", 0x000002#24, 0xE001FF#24⟩,
      ⟨"RX.SKIP", 0x000000#24, 0xE00100#24⟩, ⟨"RX.END", 0x000103#24, 0xE001FF#24⟩,
      ⟨"RX.NONASCII", 0x000180#24, 0xE00180#24⟩, ⟨"RX.DATA", 0x000100#24, 0xE00180#24⟩,
      ⟨"NODATA", 0x200000#24, 0xE00000#24⟩, ⟨"TICK", 0x400000#24, 0xE00000#24⟩,
      ⟨"INVOKE", 0x600000#24, 0xE00000#24⟩, ⟨"CFGWR", 0x800000#24, 0xE00000#24⟩,
      ⟨"CFGRD", 0xA00000#24, 0xE00000#24⟩, ⟨"WAKE", 0xC00000#24, 0xE00000#24⟩ ] ∧
  (∀ w : EventWord, (opcodeTable.find? fun r => decide (w &&& r.mask = r.bits)).map OpcodeRow.mnemonic =
    some (mnemonicOf (decode w))) ∧
  ∀ (w : EventWord) (r q : OpcodeRow), r ∈ opcodeTable → q ∈ opcodeTable → r ≠ q →
    w &&& r.mask = r.bits → w &&& q.mask = q.bits →
    (r.mnemonic ∈ ["RX.START", "RX.SKIP"] ∧ q.mnemonic ∈ ["RX.START", "RX.SKIP"]) ∨
    (r.mnemonic ∈ ["RX.END", "RX.DATA"] ∧ q.mnemonic ∈ ["RX.END", "RX.DATA"])

/-- The class of a received byte in each mode (stated; R81). -/
def Obligations.ByteClassOfEveryByte : Prop :=
  ∀ b : Byte,
    (b.toNat = 0x02 → classify true b = .rxStart) ∧
    (b.toNat ≠ 0x02 → classify true b = .rxSkip b) ∧
    (b.toNat = 0x03 → classify false b = .rxEnd) ∧
    (0x80 ≤ b.toNat → classify false b = .rxNonascii b) ∧
    (b.toNat ≤ 0x7F → b.toNat ≠ 0x03 → classify false b = .rxData b)

/-- Every event word decodes, to an event whose operand its class admits (derived; 30_encoding.md section 4,
30_encoding.md R85). That a longer number is rejected is the model's choice (log 19). -/
def Obligations.EveryWordDecodesWellFormed : Prop :=
  (∀ w : EventWord, (decode w).wf = true) ∧
  (∀ w : EventWord, decodeTableWord 24 w.toNat = some (decode w)) ∧
  ∀ n : Nat, 2 ^ 24 ≤ n → n < 2 ^ 32 → decodeTableWord 32 n = none

/-- Words of the spec's list decode to the events listed (derived; 95_test_vectors.md section 2.5). -/
def Obligations.SampleWordsDecodeAsListed : Prop :=
  decode 0x000002#24 = .rxStart ∧ decode 0x0000FF#24 = .rxSkip 0xFF#8 ∧ decode 0x000102#24 = .rxData 0x02#8 ∧
  decode 0x000103#24 = .rxEnd ∧ decode 0x1FFFFF#24 = .rxNonascii 0xFF#8 ∧ decode 0x3FFFFF#24 = .nodata ∧
  decode 0x9FFFFF#24 = .cfgwr 3#2 0xFFFF#16 ∧ decode 0xBFFFFF#24 = .cfgrd 3#2 ∧ decode 0xDFFFFF#24 = .wake ∧
  decode 0xFFFFFF#24 = .reset

/-- INVOKE while run = 0 initialises DecodeState, sets run and clears tagv (stated; R105). -/
def Obligations.InvokeStartsInvocation : Prop :=
  (∀ s : State, s.run = false →
    exec .invoke s = .next { s with run := true, idle := true, len := 0#4, lastRxTime := s.now, tagv := false }) ∧
  (∀ w : EventWord, w.extractLsb' 21 3 = 0b011#3 → decode w = .invoke) ∧
  ∀ (p : Ports) (s : State), portLoop p s = some .invoke ↔ p.invoke = true ∧ s.run = false

/-- INVOKE while run = 1 changes nothing (stated; R106). -/
def Obligations.InvokeWhileRunningIsIgnored : Prop :=
  ∀ s : State, s.run = true → exec .invoke s = .next s ∧ ∀ p : Ports, portLoop p s ≠ some .invoke

/-- Every byte taken refreshes the timestamp; no byte is taken while run = 0 (stated; R107). -/
def Obligations.ByteEventCommonPart : Prop :=
  (∀ (b : Byte) (s : State), s.run = true →
    ∃ t, exec (classify s.idle b) s = .next t ∧ t.lastRxTime = s.now) ∧
  (∀ (b : Byte) (s : State), s.run = false →
    exec .rxStart s = .next s ∧ exec (.rxSkip b) s = .next s ∧ exec .rxEnd s = .next s ∧
    exec (.rxNonascii b) s = .next s ∧ exec (.rxData b) s = .next s) ∧
  ∀ (p : Ports) (s : State) (b : Byte), portLoop p s = some (.rx b) ↔
    s.rxReady = true ∧ p.rxValid = true ∧ p.rxData = b

/-- The model's choice: a byte event whose mode bit is not the state's mode does not happen (derived;
41_frame_decoder.md R106, 41_frame_decoder.md R107, 00_scope.md R18). The model's choice, log 8. -/
def Obligations.ByteEventOfOtherModeIsIgnored : Prop :=
  (∀ (s : State) (b : Byte), s.idle = false → exec .rxStart s = .next s ∧ exec (.rxSkip b) s = .next s) ∧
  ∀ (s : State) (b : Byte), s.idle = true →
    exec .rxEnd s = .next s ∧ exec (.rxNonascii b) s = .next s ∧ exec (.rxData b) s = .next s

/-- RX.START stamps the time, empties the buffer and enters Collecting (stated; R108). -/
def Obligations.RxStartBeginsFrame : Prop :=
  (∀ s : State, s.run = true → s.idle = true →
    exec .rxStart s = .next { s with lastRxTime := s.now, len := 0#4, idle := false }) ∧
  classify true 0x02#8 = .rxStart ∧
  ∀ w : EventWord, w.extractLsb' 21 3 = 0b000#3 → w.getLsbD 8 = false → w.extractLsb' 0 8 = 0x02#8 →
    decode w = .rxStart

/-- RX.SKIP changes only the timestamp and, under LOG_EN, diag[2] (stated; R109). -/
def Obligations.RxSkipDropsByte : Prop :=
  (∀ (s : State) (b : Byte), s.run = true → s.idle = true → b ≠ 0x02#8 →
    classify s.idle b = .rxSkip b ∧
    exec (.rxSkip b) s = .next { s with
      lastRxTime := s.now, diag := if s.logEn then s.diag ||| 0b000010#6 else s.diag }) ∧
  ∀ w : EventWord, w.extractLsb' 21 3 = 0b000#3 → w.getLsbD 8 = false → w.extractLsb' 0 8 ≠ 0x02#8 →
    decode w = .rxSkip (w.extractLsb' 0 8)

/-- RX.DATA stores the byte at position len below twelve and only counts from there on (stated; R112). -/
def Obligations.RxDataAppendsOrCounts : Prop :=
  (∀ (s : State) (b : Byte), s.run = true → s.idle = false → b ≤ 0x7F#8 → b ≠ 0x03#8 →
    classify s.idle b = .rxData b ∧
    (∀ h : s.len.toNat < 12, exec (.rxData b) s = .next { s with
      lastRxTime := s.now, buf := s.buf.set s.len.toNat b h, len := s.len + 1#4 }) ∧
    (12 ≤ s.len.toNat → exec (.rxData b) s = .next { s with lastRxTime := s.now, len := 13#4 })) ∧
  ∀ w : EventWord, w.extractLsb' 21 3 = 0b000#3 → w.getLsbD 8 = true → w.getLsbD 7 = false →
    w.extractLsb' 0 8 ≠ 0x03#8 → decode w = .rxData (w.extractLsb' 0 8)

/-- RX.END: length first, then checksum, else Emit; a mismatch only discards (stated; R114). -/
def Obligations.RxEndOutcomes : Prop :=
  (∀ s : State, s.run = true → s.idle = false → s.len ≠ 12#4 →
    exec .rxEnd s = .next { s with
      lastRxTime := s.now, idle := true, len := 0#4,
      diag := if s.logEn then s.diag ||| 0b001000#6 else s.diag }) ∧
  (∀ s : State, s.run = true → s.idle = false → s.len = 12#4 → checksumValid s.buf = false →
    exec .rxEnd s = .next { s with
      lastRxTime := s.now, idle := true, len := 0#4,
      diag := if s.logEn then s.diag ||| 0b010000#6 else s.diag }) ∧
  (∀ s : State, s.run = true → s.idle = false → s.len = 12#4 → checksumValid s.buf = true →
    ∃ t : TagBits, tagValue s.buf = some t ∧ exec .rxEnd s = .next { s with
      lastRxTime := s.now, idle := true, len := 0#4, tagBin := t, tagAscii := dec10 t,
      tagv := true, done := true, run := false }) ∧
  ∀ w : EventWord, w.extractLsb' 21 3 = 0b000#3 → w.getLsbD 8 = true → w.extractLsb' 0 8 = 0x03#8 →
    decode w = .rxEnd

/-- Emit writes both result registers, sets tagv, pulses done and ends the invocation (stated; R115). -/
def Obligations.EmitEndsTheInvocation : Prop :=
  ∀ (s : State) (v : TagBits), s.run = true → s.idle = false → s.len = 12#4 →
    checksumValid s.buf = true → tagValue s.buf = some v →
    ∃ t, exec .rxEnd s = .next t ∧
      t = { s with
        tagBin := v, tagAscii := dec10 v, tagv := true, done := true, run := false, idle := true, len := 0#4,
        lastRxTime := s.now } ∧
      t.rxReady = false ∧
      (∀ n : Time, exec .wake { t with now := n } = .next { t with now := n }) ∧
      ∀ (b : Byte) (m : Bool), exec (classify m b) t = .next t

/-- RX.NONASCII discards the frame, asks for a reconnect and never stores the byte (stated; R116). -/
def Obligations.NonAsciiDiscardsAndReconnects : Prop :=
  (∀ (s : State) (b : Byte), s.run = true → s.idle = false → 0x80#8 ≤ b →
    classify s.idle b = .rxNonascii b ∧
    ∃ t, exec (.rxNonascii b) s = .next t ∧
      t = { s with
        lastRxTime := s.now, idle := true, len := 0#4, reconnectReq := true,
        diag := if s.logEn then s.diag ||| 0b000100#6 else s.diag } ∧
      t.rxReady = false) ∧
  ∀ w : EventWord, w.extractLsb' 21 3 = 0b000#3 → w.getLsbD 8 = true → w.getLsbD 7 = true →
    decode w = .rxNonascii (w.extractLsb' 0 8)

/-- NODATA is the identity (stated; R117). -/
def Obligations.NodataChangesNothing : Prop :=
  (∀ s : State, exec .nodata s = .next s) ∧
  (∀ w : EventWord, w.extractLsb' 21 3 = 0b001#3 → decode w = .nodata) ∧
  ∀ (p : Ports) (s : State), portLoop p s = some .nodata ↔ s.rxReady = true ∧ p.rxValid = false

/-- TICK adds one to now modulo 2^32 and changes nothing else (stated; R140). -/
def Obligations.TickAdvancesNow : Prop :=
  (∀ s : State, exec .tick s = .next { s with now := BitVec.ofNat 32 ((s.now.toNat + 1) % 2 ^ 32) }) ∧
  (∀ w : EventWord, w.extractLsb' 21 3 = 0b010#3 → decode w = .tick) ∧
  ∀ (p : Ports) (s : State), p.tick = true → ((portEvents p s).instrs s).head? = some .tick

/-- WAKE fires exactly when a frame in progress has been silent for more than the window (stated; R141, R142,
R143). -/
def Obligations.WakeChecksAndFires : Prop :=
  (∀ s : State, s.run = true → s.idle = false →
    s.stallWindow.toNat < (s.now.toNat + 2 ^ 32 - s.lastRxTime.toNat) % 2 ^ 32 →
    exec .wake s = .next { s with
      idle := true, len := 0#4, lastRxTime := s.now, reconnectReq := true,
      diag := if s.logEn then s.diag ||| 0b100000#6 else s.diag }) ∧
  (∀ s : State, s.run = false ∨ s.idle = true ∨
    (s.now.toNat + 2 ^ 32 - s.lastRxTime.toNat) % 2 ^ 32 ≤ s.stallWindow.toNat →
    exec .wake s = .next s) ∧
  ∀ w : EventWord, w.extractLsb' 21 3 = 0b110#3 → decode w = .wake

/-- CFGWR writes STALL_WINDOW or LOG_EN and nothing for registers 2 and 3 (stated; R158). -/
def Obligations.CfgwrWritesRegister : Prop :=
  (∀ (s : State) (d : CfgWord),
    exec (.cfgwr 0#2 d) s = .next { s with stallWindow := d } ∧
    exec (.cfgwr 1#2 d) s = .next { s with logEn := d.getLsbD 0 } ∧
    exec (.cfgwr 2#2 d) s = .next s ∧
    exec (.cfgwr 3#2 d) s = .next s) ∧
  (∀ w : EventWord, w.extractLsb' 21 3 = 0b100#3 → decode w = .cfgwr (w.extractLsb' 16 2) (w.extractLsb' 0 16)) ∧
  ∀ (p : Ports) (s : State), p.cfgWe = true →
    ((portEvents p s).instrs s).getLast? = some (.cfgwr p.cfgAddr p.cfgWdata)

/-- CFGRD returns the selected register and changes nothing of the block (derived; 45_host_config.md R160). R160
gives the value returned and no effect on the block; that the value is kept in the field lastRead is the model's
choice, log 10. -/
def Obligations.CfgrdReturnsRegister : Prop :=
  (∀ s : State,
    exec (.cfgrd 0#2) s = .next { s with lastRead := some s.stallWindow } ∧
    exec (.cfgrd 1#2) s = .next { s with lastRead := some (BitVec.ofNat 16 s.logEn.toNat) } ∧
    exec (.cfgrd 2#2) s = .next { s with
      lastRead := some (BitVec.ofNat 16 (s.run.toNat + 2 * s.idle.toNat + 4 * s.len.toNat + 64 * s.tagv.toNat)) } ∧
    exec (.cfgrd 3#2) s = .next { s with lastRead := some 0#16 }) ∧
  (∀ (s : State) (a : CfgAddr), exec (.cfgrd a) s = .next { s with lastRead := some (s.outputs a).cfgRdata }) ∧
  ∀ w : EventWord, w.extractLsb' 21 3 = 0b101#3 → decode w = .cfgrd (w.extractLsb' 16 2)

/-- RESET gives every element but buf its reset value and pulses nothing (stated; R162). -/
def Obligations.ResetEventRestoresValues : Prop :=
  (∀ s : State, ∃ t, exec .reset s = .next t ∧
    t.idle = true ∧ t.len = 0#4 ∧ t.run = false ∧ t.tagv = false ∧ t.now = 0#32 ∧ t.lastRxTime = 0#32 ∧
    t.stallWindow = 10#16 ∧ t.logEn = false ∧ t.tagBin = 0#32 ∧ t.tagAscii = 0x30303030303030303030#80 ∧
    t.done = false ∧ t.reconnectReq = false ∧ t.diag = 0#6) ∧
  (∀ w : EventWord, w.extractLsb' 21 3 = 0b111#3 → decode w = .reset) ∧
  ∀ (p : Ports) (s : State), p.rst = true → portCycle p s = exec .reset s

/-- What raising each of the six causes writes (stated; R176). -/
def Obligations.DiscardPathOfEachCause : Prop :=
  ∀ s : State,
    raiseCause .transportTimeout s = s ∧
    raiseCause .invalidLeadingByte s =
      { s with diag := if s.logEn then s.diag ||| 0b000010#6 else s.diag } ∧
    raiseCause .nonAsciiByte s =
      { s with idle := true, len := 0#4, reconnectReq := true,
               diag := if s.logEn then s.diag ||| 0b000100#6 else s.diag } ∧
    raiseCause .lengthMismatch s =
      { s with idle := true, len := 0#4, diag := if s.logEn then s.diag ||| 0b001000#6 else s.diag } ∧
    raiseCause .checksumMismatch s =
      { s with idle := true, len := 0#4, diag := if s.logEn then s.diag ||| 0b010000#6 else s.diag } ∧
    raiseCause .stallTimeout s =
      { s with idle := true, len := 0#4, reconnectReq := true, lastRxTime := s.now,
               diag := if s.logEn then s.diag ||| 0b100000#6 else s.diag }

/-- run goes from 1 to 0 only by Emit or RESET, and no cause ends the invocation (stated; R111). -/
def Obligations.RunFallsOnlyByEmitOrReset : Prop :=
  (∀ (i : Instr) (s t : State), exec i s = .next t → s.run = true → t.run = false →
    i = .reset ∨ (i = .rxEnd ∧ s.idle = false ∧ s.len = 12#4 ∧ checksumValid s.buf = true)) ∧
  ∀ (k : Cause) (s : State), (raiseCause k s).run = s.run ∧ (raiseCause k s).done = s.done ∧
    (raiseCause k s).tagv = s.tagv ∧ (raiseCause k s).tagBin = s.tagBin ∧ (raiseCause k s).tagAscii = s.tagAscii

/-- Exactly RX.NONASCII and a watchdog fire pulse reconnect_req (stated; R151). -/
def Obligations.ReconnectOnlyByTwoEvents : Prop :=
  ∀ (i : Instr) (s t : State), s.reconnectReq = false → exec i s = .next t →
    (t.reconnectReq = true ↔
      (∃ b, i = .rxNonascii b ∧ s.run = true ∧ s.idle = false) ∨
      (i = .wake ∧ s.run = true ∧ s.idle = false ∧ s.stallWindow.setWidth 32 < s.now - s.lastRxTime))

/-- Which events can change which state element (derived; 20_memory.md R69, 60_exceptions.md section 6,
45_host_config.md R162). The table of R181 is the spec's own inference (marked derived there). R69 does not name
RESET among the writers of buf, nor R181 among those of the pulses; R162 does. The clearing of the pulses at a
clock edge is no event. The last three clauses, on inputs, lastRead and freeIndex, are the model's choices, logs 1,
10 and 6. -/
def Obligations.EachElementHasItsWriters : Prop :=
  ∀ (i : Instr) (s t : State), exec i s = .next t →
    (t.buf ≠ s.buf → (∃ b, i = .rxData b) ∨ i = .reset) ∧
    (t.len ≠ s.len → (∃ b, i = .rxData b) ∨ (t.len = 0#4 ∧
      (i = .invoke ∨ i = .rxStart ∨ i = .rxEnd ∨ (∃ b, i = .rxNonascii b) ∨ (i = .wake ∧ s.stall = true) ∨
        i = .reset))) ∧
    (t.lastRxTime ≠ s.lastRxTime → i = .rxStart ∨ (∃ b, i = .rxSkip b) ∨ i = .rxEnd ∨ (∃ b, i = .rxNonascii b) ∨
      (∃ b, i = .rxData b) ∨ i = .invoke ∨ (i = .wake ∧ s.stall = true) ∨ i = .reset) ∧
    (t.now ≠ s.now → i = .tick ∨ i = .reset) ∧
    (t.stallWindow ≠ s.stallWindow ∨ t.logEn ≠ s.logEn → (∃ a d, i = .cfgwr a d) ∨ i = .reset) ∧
    (t.tagBin ≠ s.tagBin ∨ t.tagAscii ≠ s.tagAscii → (i = .rxEnd ∧ t.done = true) ∨ i = .reset) ∧
    (t.tagv ≠ s.tagv → (i = .rxEnd ∧ t.done = true) ∨ i = .invoke ∨ i = .reset) ∧
    (t.idle ≠ s.idle → (t.idle = false ∧ i = .rxStart) ∨ (t.idle = true ∧
      (i = .invoke ∨ i = .rxEnd ∨ (∃ b, i = .rxNonascii b) ∨ (i = .wake ∧ s.stall = true) ∨ i = .reset))) ∧
    (t.run ≠ s.run → (t.run = true ∧ i = .invoke) ∨ (t.run = false ∧
      ((i = .rxEnd ∧ t.done = true) ∨ i = .reset))) ∧
    (t.done ≠ s.done → (t.done = true ∧ i = .rxEnd) ∨ (t.done = false ∧ i = .reset)) ∧
    (t.reconnectReq ≠ s.reconnectReq → (t.reconnectReq = true ∧
      ((∃ b, i = .rxNonascii b) ∨ (i = .wake ∧ s.stall = true))) ∨ (t.reconnectReq = false ∧ i = .reset)) ∧
    (t.diag ≠ s.diag → (s.logEn = true ∧ ((∃ b, i = .rxSkip b) ∨ i = .rxEnd ∨ (∃ b, i = .rxNonascii b) ∨
      (i = .wake ∧ s.stall = true))) ∨ (t.diag = 0#6 ∧ i = .reset)) ∧
    t.inputs = s.inputs ∧
    (t.lastRead ≠ s.lastRead → ∃ a, i = .cfgrd a) ∧
    (t.freeIndex ≠ s.freeIndex → i = .reset)

/-- The state after reset, element by element (stated; R190). -/
def Obligations.ResetStateValues : Prop :=
  State.reset.len = 0#4 ∧ State.reset.idle = true ∧ State.reset.run = false ∧ State.reset.tagv = false ∧
  State.reset.now = 0#32 ∧ State.reset.lastRxTime = 0#32 ∧ State.reset.stallWindow = 10#16 ∧
  State.reset.logEn = false ∧ State.reset.tagBin = 0#32 ∧
  State.reset.tagAscii = 0x30303030303030303030#80 ∧ State.reset.done = false ∧
  State.reset.reconnectReq = false ∧ State.reset.diag = 0#6 ∧
  (∀ (p : Ports) (s : State), p.rst = true → portCycle p s = exec .reset s) ∧
  ∀ s : State, ∃ t, exec .reset s = .next t ∧ t = { State.reset with
    buf := t.buf, inputs := t.inputs, lastRead := t.lastRead, freeIndex := t.freeIndex }

/-- The output ports in the cycle after reset (derived; 70_reset_and_hazards.md section 1). The spec's own
inference (R191 is marked derived there). -/
def Obligations.OutputsAfterReset : Prop :=
  ∀ s t : State, exec .reset s = .next t → ∀ u : State, u = State.reset ∨ u = t → ∀ a : CfgAddr,
    u.outputs a = {
      busy := false, done := false, tagBin := 0#32, tagAscii := 0x30303030303030303030#80, rxReady := false,
      reconnectReq := false, diag := 0#6,
      cfgRdata := if a = 0#2 then 0x000A#16 else if a = 2#2 then 0x0002#16 else 0#16 }

/-- STATUS shows run, idle, len and tagv at their bits, the rest 0, and ignores writes (stated; R38). -/
def Obligations.StatusRegisterLayout : Prop :=
  ∀ s : State,
    (s.readCfg 2#2).getLsbD 0 = s.run ∧ (s.readCfg 2#2).getLsbD 1 = s.idle ∧
    (s.readCfg 2#2).extractLsb' 2 4 = s.len ∧ (s.readCfg 2#2).getLsbD 6 = s.tagv ∧
    (s.readCfg 2#2).extractLsb' 7 9 = 0#9 ∧
    ∀ d : CfgWord, exec (.cfgwr 2#2 d) s = .next s

/-- When the block takes a byte from the ports, and when it sees none (stated; R33). -/
def Obligations.RxHandshake : Prop :=
  ∀ (p : Ports) (s : State) (a : CfgAddr),
    (s.outputs a).rxReady = (s.run && !s.reconnectReq) ∧
    (portLoop p s = some (.rx p.rxData) ↔ p.rxValid = true ∧ (s.outputs a).rxReady = true) ∧
    (portLoop p s = some .nodata ↔ (s.outputs a).rxReady = true ∧ p.rxValid = false) ∧
    ((s.outputs a).rxReady = false → portLoop p s ≠ some .nodata ∧ ∀ b, portLoop p s ≠ some (.rx b))

/-- One clock cycle of the ports: reset alone, else clear pulses, TICK, decode loop, WAKE, CFGWR (stated; R64). -/
def Obligations.CycleAppliesEventsInOrder : Prop :=
  ∀ (p : Ports) (s : State),
    (p.rst = true → portCycle p s = exec .reset s) ∧
    (p.rst = false → portCycle p s =
      let ready := s.run && !s.reconnectReq
      let s1 : State := { s with done := false, reconnectReq := false, diag := 0#6 }
      Answer.andThen (if p.tick then exec .tick s1 else .next s1) fun s2 =>
      Answer.andThen
        (if p.invoke = true ∧ s.run = false then exec .invoke s2
          else if ready = true ∧ p.rxValid = true then exec (classify s.idle p.rxData) s2
          else if ready = true then exec .nodata s2
          else .next s2) fun s3 =>
      Answer.andThen (if p.tick then exec .wake s3 else .next s3) fun s4 =>
      if p.cfgWe then exec (.cfgwr p.cfgAddr p.cfgWdata) s4 else .next s4) ∧
    (s.outputs p.cfgAddr).cfgRdata = s.readCfg p.cfgAddr

/-- In a cycle that takes a byte the watchdog's check changes nothing (derived; 43_watchdog.md R149, 20_memory.md
section 7). -/
def Obligations.ByteInTickCycleRescuesFrame : Prop :=
  ∀ (p : Ports) (s : State), p.rst = false → p.tick = true → p.rxValid = true → s.rxReady = true →
    portCycle p s =
      runEvents ([.tick, classify s.idle p.rxData] ++
        (if p.cfgWe then [Instr.cfgwr p.cfgAddr p.cfgWdata] else [])) s.clearPulses

/-- Which pulses a port cycle leaves: done by Emit, reconnect_req by a non-ASCII byte or a fire, diag by the cause,
each from this cycle only (derived; 10_state.md R31, 44_reconnect.md R151, 60_exceptions.md R184). -/
def Obligations.PulsesOfAPortCycle : Prop :=
  ∀ (p : Ports) (s t : State), p.rst = false → portCycle p s = .next t →
    (t.done = true ↔ s.rxReady = true ∧ p.rxValid = true ∧ p.rxData = 0x03#8 ∧ s.idle = false ∧
      s.len = 12#4 ∧ checksumValid s.buf = true) ∧
    (t.reconnectReq = true ↔
      (s.rxReady = true ∧ p.rxValid = true ∧ 0x80#8 ≤ p.rxData ∧ s.idle = false) ∨
      (p.tick = true ∧ ¬ (s.rxReady = true ∧ p.rxValid = true) ∧
        ({ s with now := s.now + 1#32 } : State).stall = true)) ∧
    (s.logEn = false → t.diag = 0#6) ∧
    (s.logEn = true → t.diag =
      if s.rxReady = true ∧ p.rxValid = true then
        if s.idle = true then (if p.rxData = 0x02#8 then 0#6 else 0b000010#6)
        else if 0x80#8 ≤ p.rxData then 0b000100#6
        else if p.rxData = 0x03#8 then
          if s.len ≠ 12#4 then 0b001000#6
          else if checksumValid s.buf = false then 0b010000#6
          else 0#6
        else 0#6
      else if p.tick = true ∧ ({ s with now := s.now + 1#32 } : State).stall = true then 0b100000#6
      else 0#6)

/-- Every port cycle keeps the time since the last byte of a frame in progress within sixteen bits (derived;
43_watchdog.md section 4). The spec's own inference (R146 is marked derived there). -/
def Obligations.ElapsedStaysBounded : Prop :=
  ∀ (p : Ports) (s t : State), s.ElapsedBounded → portCycle p s = .next t → t.ElapsedBounded

/-- A step whose next input is an event word runs the event the word decodes to (derived; 30_encoding.md section 7,
00_scope.md R15). How inputs reach the step is the model's choice, logs 1 to 3. -/
def Obligations.StepRunsTheDecodedEvent : Prop :=
  (∀ (s : State) (w : EventWord) (xs : List Input), s.inputs = .word w :: xs →
    step s = exec (decode w) { s with inputs := xs, done := false, reconnectReq := false, diag := 0#6 }) ∧
  (∀ (s : State) (c : CycleEvents) (xs : List Input), s.inputs = .cycle c :: xs →
    step s = runCycle c { s with inputs := xs }) ∧
  (∀ (s : State) (p : Ports) (xs : List Input), s.inputs = .ports p :: xs →
    step s = portCycle p { s with inputs := xs }) ∧
  ∀ s : State, s.inputs = [] → step s = .next s

/-- Placing the word of a well-formed event makes the very next step run that event (derived; 30_encoding.md
section 4, 30_encoding.md section 7, 20_memory.md R64). The way a word is placed is the model's choice, log 1; that
it is a cycle of its own, so that the pulse registers are cleared first, is the model's reading, log 2. -/
def Obligations.FetchWordRunsEncodedEvent : Prop :=
  ∀ (s : State) (i : Instr), i.wf = true →
    step (s.withFetchWord 24 (encode i).toNat) =
      exec i { s with done := false, reconnectReq := false, diag := 0#6 }

/-- No event and no step ends in a fault or a refusal (derived; 60_exceptions.md R187). Beyond R187 it is the
model's choice that these complete too: INVOKE while run = 1 (log 7), a byte event of the other mode (log 8), a
term that no word decodes to (log 9), len 14 and 15 (log 12), and a step with no input left (log 3). -/
def Obligations.EveryEventAndStepCompletes : Prop :=
  (∀ (i : Instr) (s : State), ∃ t, exec i s = .next t) ∧ ∀ s : State, ∃ t, step s = .next t

/-- The invariants hold right after reset (derived; 10_state.md section 9). The spec's own inference (R43 is marked
derived there). -/
def Obligations.ResetStateMeetsInvariants : Prop :=
  State.reset.Inv ∧ State.reset.PulseInv ∧ State.reset.ElapsedBounded

/-- Every step keeps the invariants of the block's state (derived; 10_state.md section 9). The spec's own inference
(R43 is marked derived there). -/
def Obligations.EveryStepKeepsInvariants : Prop :=
  (∀ s t : State, s.Inv → step s = .next t → t.Inv) ∧
  ∀ (i : Instr) (s t : State), s.Inv → exec i s = .next t → t.Inv

/-- At most one cause is reported per cycle, and a pulse stands only with the state its event leaves (derived;
60_exceptions.md section 2, 44_reconnect.md section 1). The spec's own inferences (R173 and part of R152 are marked
derived there). -/
def Obligations.EveryStepKeepsPulseDiscipline : Prop :=
  ∀ s t : State, s.PulseInv → step s = .next t → t.PulseInv

/-- LOG_EN governs only diag: states that differ in it step alike, and with LOG_EN = 0 no cause is reported
(stated; R37). -/
def Obligations.LogFlagNeverAffectsControl : Prop :=
  (∀ (s : State) (d : CfgWord), (s.readCfg 1#2).getLsbD 0 = s.logEn ∧ (s.readCfg 1#2).extractLsb' 1 15 = 0#15 ∧
    exec (.cfgwr 1#2 d) s = .next { s with logEn := d.getLsbD 0 }) ∧
  State.reset.logEn = false ∧
  (∀ s t : State, s.SameButLog t →
    ∃ s' t' : State, step s = .next s' ∧ step t = .next t' ∧ s'.SameButLog t') ∧
  ∀ (i : Instr) (s t : State), s.logEn = false → exec i s = .next t → t.diag = s.diag ∨ (i = .reset ∧ t.diag = 0#6)

/-- Slots at or above len influence nothing: states that differ only there step alike (stated; R23). -/
def Obligations.UnusedSlotsAreUnobservable : Prop :=
  (∀ s t : State, s.SameFrame t →
    (∀ a, t.outputs a = s.outputs a) ∧
    ∃ s' t' : State, step s = .next s' ∧ step t = .next t' ∧ s'.SameFrame t') ∧
  ∀ (k : Cause) (s : State), (raiseCause k s).buf = s.buf

/-- A frame in progress that gets no byte for STALL_WINDOW + 1 tick cycles is cleared, with one reconnect request
(derived; 43_watchdog.md section 4, 10_state.md R35). The spec's own inference (R148 is marked derived there); the
bound on the elapsed time is the invariant ElapsedStaysBounded. -/
def Obligations.StalledFrameIsClearedOnce : Prop :=
  ∀ (s : State) (ps : List Ports) (rest : List Input),
    s.run = true → s.idle = false → s.ElapsedBounded →
    (∀ p ∈ ps, p.rst = false ∧ p.rxValid = false ∧ (p.cfgWe = true → p.cfgAddr ≠ 0#2)) →
    (ps.filter fun p => p.tick).length = s.stallWindow.toNat + 1 →
    s.inputs = ps.map Input.ports ++ rest →
    (∃ t : State, core.run ps.length s = .next t ∧ t.run = true ∧ t.idle = true ∧ t.len = 0#4) ∧
    ∃! n : Nat, 0 < n ∧ n ≤ ps.length ∧ ∃ u : State, core.run n s = .next u ∧ u.reconnectReq = true

/-- Round trip: any noise, then the good frame of any ten hex characters, emits the decimal of characters 2 to 9
(derived; 41_frame_decoder.md section 7, 95_test_vectors.md section 2.17, 30_encoding.md R95). The spec's own
inference (R119 is marked derived there). -/
def Obligations.GoodFrameEmitsItsTag : Prop :=
  ∀ (s : State) (noise : List Byte) (d : Vector Byte 10) (v : Fin 10 → Nibble) (rest : List Input),
    s.run = true → s.idle = true → (∀ b ∈ noise, b ≠ 0x02#8) → (∀ k : Fin 10, hexval d[k.val] = some (v k)) →
    ∃ fs : List Input, Trace.goodFrame d = some fs ∧ fs.length = 14 ∧
      (s.inputs = Trace.str noise ++ fs ++ rest →
        ∃ t : State, core.run (noise.length + 14) s = .next t ∧
          t.run = false ∧ t.idle = true ∧ t.len = 0#4 ∧ t.tagv = true ∧ t.done = true ∧
          t.tagBin.toNat = ∑ k : Fin 8, (v ⟨k.val + 2, by omega⟩).toNat * 16 ^ (7 - k.val) ∧
          t.tagAscii = dec10 t.tagBin ∧ t.stallWindow = s.stallWindow ∧ t.logEn = s.logEn ∧ t.inputs = rest)

/-- A frame whose length at the end marker is not twelve is discarded, whatever its characters (derived;
41_frame_decoder.md section 7, 60_exceptions.md R170). The spec's own inference (R119 is marked derived there). -/
def Obligations.WrongLengthFrameIsDiscarded : Prop :=
  ∀ (s : State) (cs : List Byte) (rest : List Input), s.run = true → s.idle = true →
    (∀ b ∈ cs, b ≤ 0x7F#8 ∧ b ≠ 0x03#8) → cs.length ≠ 12 → s.inputs = Trace.frame cs ++ rest →
    ∃ t : State, core.run (cs.length + 2) s = .next t ∧
      t.run = true ∧ t.idle = true ∧ t.len = 0#4 ∧ t.tagBin = s.tagBin ∧ t.tagAscii = s.tagAscii ∧
      t.tagv = s.tagv ∧ t.done = false ∧ t.reconnectReq = false ∧
      t.diag = (if s.logEn then 0b001000#6 else 0#6) ∧ t.inputs = rest

/-- The model's choice: pair, xorfold and tag_value answer none exactly where the spec does not define them
(derived; 42_checksum_validator.md R126, 42_checksum_validator.md R127, 42_checksum_validator.md R131). The rules
say where these functions are defined; that they answer none elsewhere is the model's choice, log 15. -/
def Obligations.PairFoldAndTagHaveNoValueOffHex : Prop :=
  ∀ p : Payload,
    (∀ i : Fin 6, pair p i = none ↔ hexval p[2 * i.val] = none ∨ hexval p[2 * i.val + 1] = none) ∧
    (xorfold p = none ↔ ∃ k : Fin 10, hexval p[k.val] = none) ∧
    (tagValue p = none ↔ ∃ k : Fin 8, hexval p[2 + k.val] = none)
end

