-- ==== Sys2Proof/Laws/State.lean ====
section
/-! SUPPORT. One lemma per field per named update of the state, each true by `rfl`, so that no proof unfolds a record
update. -/

namespace Sys2Proof.Machine


/-! `stamp` -/

@[simp] theorem State.stamp_buf (s : State) : s.stamp.buf = s.buf := rfl
@[simp] theorem State.stamp_len (s : State) : s.stamp.len = s.len := rfl
@[simp] theorem State.stamp_idle (s : State) : s.stamp.idle = s.idle := rfl
@[simp] theorem State.stamp_lastRxTime (s : State) : s.stamp.lastRxTime = s.now := rfl
@[simp] theorem State.stamp_now (s : State) : s.stamp.now = s.now := rfl
@[simp] theorem State.stamp_run (s : State) : s.stamp.run = s.run := rfl
@[simp] theorem State.stamp_stallWindow (s : State) : s.stamp.stallWindow = s.stallWindow := rfl
@[simp] theorem State.stamp_logEn (s : State) : s.stamp.logEn = s.logEn := rfl
@[simp] theorem State.stamp_tagBin (s : State) : s.stamp.tagBin = s.tagBin := rfl
@[simp] theorem State.stamp_tagAscii (s : State) : s.stamp.tagAscii = s.tagAscii := rfl
@[simp] theorem State.stamp_tagv (s : State) : s.stamp.tagv = s.tagv := rfl
@[simp] theorem State.stamp_done (s : State) : s.stamp.done = s.done := rfl
@[simp] theorem State.stamp_reconnectReq (s : State) : s.stamp.reconnectReq = s.reconnectReq := rfl
@[simp] theorem State.stamp_diag (s : State) : s.stamp.diag = s.diag := rfl
@[simp] theorem State.stamp_inputs (s : State) : s.stamp.inputs = s.inputs := rfl
@[simp] theorem State.stamp_lastRead (s : State) : s.stamp.lastRead = s.lastRead := rfl
@[simp] theorem State.stamp_freeIndex (s : State) : s.stamp.freeIndex = s.freeIndex := rfl

/-! `toIdle` -/

@[simp] theorem State.toIdle_buf (s : State) : s.toIdle.buf = s.buf := rfl
@[simp] theorem State.toIdle_len (s : State) : s.toIdle.len = 0#4 := rfl
@[simp] theorem State.toIdle_idle (s : State) : s.toIdle.idle = true := rfl
@[simp] theorem State.toIdle_lastRxTime (s : State) : s.toIdle.lastRxTime = s.lastRxTime := rfl
@[simp] theorem State.toIdle_now (s : State) : s.toIdle.now = s.now := rfl
@[simp] theorem State.toIdle_run (s : State) : s.toIdle.run = s.run := rfl
@[simp] theorem State.toIdle_stallWindow (s : State) : s.toIdle.stallWindow = s.stallWindow := rfl
@[simp] theorem State.toIdle_logEn (s : State) : s.toIdle.logEn = s.logEn := rfl
@[simp] theorem State.toIdle_tagBin (s : State) : s.toIdle.tagBin = s.tagBin := rfl
@[simp] theorem State.toIdle_tagAscii (s : State) : s.toIdle.tagAscii = s.tagAscii := rfl
@[simp] theorem State.toIdle_tagv (s : State) : s.toIdle.tagv = s.tagv := rfl
@[simp] theorem State.toIdle_done (s : State) : s.toIdle.done = s.done := rfl
@[simp] theorem State.toIdle_reconnectReq (s : State) : s.toIdle.reconnectReq = s.reconnectReq := rfl
@[simp] theorem State.toIdle_diag (s : State) : s.toIdle.diag = s.diag := rfl
@[simp] theorem State.toIdle_inputs (s : State) : s.toIdle.inputs = s.inputs := rfl
@[simp] theorem State.toIdle_lastRead (s : State) : s.toIdle.lastRead = s.lastRead := rfl
@[simp] theorem State.toIdle_freeIndex (s : State) : s.toIdle.freeIndex = s.freeIndex := rfl

/-! `beginFrame` -/

@[simp] theorem State.beginFrame_buf (s : State) : s.beginFrame.buf = s.buf := rfl
@[simp] theorem State.beginFrame_len (s : State) : s.beginFrame.len = 0#4 := rfl
@[simp] theorem State.beginFrame_idle (s : State) : s.beginFrame.idle = false := rfl
@[simp] theorem State.beginFrame_lastRxTime (s : State) : s.beginFrame.lastRxTime = s.lastRxTime := rfl
@[simp] theorem State.beginFrame_now (s : State) : s.beginFrame.now = s.now := rfl
@[simp] theorem State.beginFrame_run (s : State) : s.beginFrame.run = s.run := rfl
@[simp] theorem State.beginFrame_stallWindow (s : State) : s.beginFrame.stallWindow = s.stallWindow := rfl
@[simp] theorem State.beginFrame_logEn (s : State) : s.beginFrame.logEn = s.logEn := rfl
@[simp] theorem State.beginFrame_tagBin (s : State) : s.beginFrame.tagBin = s.tagBin := rfl
@[simp] theorem State.beginFrame_tagAscii (s : State) : s.beginFrame.tagAscii = s.tagAscii := rfl
@[simp] theorem State.beginFrame_tagv (s : State) : s.beginFrame.tagv = s.tagv := rfl
@[simp] theorem State.beginFrame_done (s : State) : s.beginFrame.done = s.done := rfl
@[simp] theorem State.beginFrame_reconnectReq (s : State) : s.beginFrame.reconnectReq = s.reconnectReq := rfl
@[simp] theorem State.beginFrame_diag (s : State) : s.beginFrame.diag = s.diag := rfl
@[simp] theorem State.beginFrame_inputs (s : State) : s.beginFrame.inputs = s.inputs := rfl
@[simp] theorem State.beginFrame_lastRead (s : State) : s.beginFrame.lastRead = s.lastRead := rfl
@[simp] theorem State.beginFrame_freeIndex (s : State) : s.beginFrame.freeIndex = s.freeIndex := rfl

/-! `clearPulses` -/

@[simp] theorem State.clearPulses_buf (s : State) : s.clearPulses.buf = s.buf := rfl
@[simp] theorem State.clearPulses_len (s : State) : s.clearPulses.len = s.len := rfl
@[simp] theorem State.clearPulses_idle (s : State) : s.clearPulses.idle = s.idle := rfl
@[simp] theorem State.clearPulses_lastRxTime (s : State) : s.clearPulses.lastRxTime = s.lastRxTime := rfl
@[simp] theorem State.clearPulses_now (s : State) : s.clearPulses.now = s.now := rfl
@[simp] theorem State.clearPulses_run (s : State) : s.clearPulses.run = s.run := rfl
@[simp] theorem State.clearPulses_stallWindow (s : State) : s.clearPulses.stallWindow = s.stallWindow := rfl
@[simp] theorem State.clearPulses_logEn (s : State) : s.clearPulses.logEn = s.logEn := rfl
@[simp] theorem State.clearPulses_tagBin (s : State) : s.clearPulses.tagBin = s.tagBin := rfl
@[simp] theorem State.clearPulses_tagAscii (s : State) : s.clearPulses.tagAscii = s.tagAscii := rfl
@[simp] theorem State.clearPulses_tagv (s : State) : s.clearPulses.tagv = s.tagv := rfl
@[simp] theorem State.clearPulses_done (s : State) : s.clearPulses.done = false := rfl
@[simp] theorem State.clearPulses_reconnectReq (s : State) : s.clearPulses.reconnectReq = false := rfl
@[simp] theorem State.clearPulses_diag (s : State) : s.clearPulses.diag = 0#6 := rfl
@[simp] theorem State.clearPulses_inputs (s : State) : s.clearPulses.inputs = s.inputs := rfl
@[simp] theorem State.clearPulses_lastRead (s : State) : s.clearPulses.lastRead = s.lastRead := rfl
@[simp] theorem State.clearPulses_freeIndex (s : State) : s.clearPulses.freeIndex = s.freeIndex := rfl

/-! `pulseDone` -/

@[simp] theorem State.pulseDone_buf (s : State) : s.pulseDone.buf = s.buf := rfl
@[simp] theorem State.pulseDone_len (s : State) : s.pulseDone.len = s.len := rfl
@[simp] theorem State.pulseDone_idle (s : State) : s.pulseDone.idle = s.idle := rfl
@[simp] theorem State.pulseDone_lastRxTime (s : State) : s.pulseDone.lastRxTime = s.lastRxTime := rfl
@[simp] theorem State.pulseDone_now (s : State) : s.pulseDone.now = s.now := rfl
@[simp] theorem State.pulseDone_run (s : State) : s.pulseDone.run = s.run := rfl
@[simp] theorem State.pulseDone_stallWindow (s : State) : s.pulseDone.stallWindow = s.stallWindow := rfl
@[simp] theorem State.pulseDone_logEn (s : State) : s.pulseDone.logEn = s.logEn := rfl
@[simp] theorem State.pulseDone_tagBin (s : State) : s.pulseDone.tagBin = s.tagBin := rfl
@[simp] theorem State.pulseDone_tagAscii (s : State) : s.pulseDone.tagAscii = s.tagAscii := rfl
@[simp] theorem State.pulseDone_tagv (s : State) : s.pulseDone.tagv = s.tagv := rfl
@[simp] theorem State.pulseDone_done (s : State) : s.pulseDone.done = true := rfl
@[simp] theorem State.pulseDone_reconnectReq (s : State) : s.pulseDone.reconnectReq = s.reconnectReq := rfl
@[simp] theorem State.pulseDone_diag (s : State) : s.pulseDone.diag = s.diag := rfl
@[simp] theorem State.pulseDone_inputs (s : State) : s.pulseDone.inputs = s.inputs := rfl
@[simp] theorem State.pulseDone_lastRead (s : State) : s.pulseDone.lastRead = s.lastRead := rfl
@[simp] theorem State.pulseDone_freeIndex (s : State) : s.pulseDone.freeIndex = s.freeIndex := rfl

/-! `pulseReconnect` -/

@[simp] theorem State.pulseReconnect_buf (s : State) : s.pulseReconnect.buf = s.buf := rfl
@[simp] theorem State.pulseReconnect_len (s : State) : s.pulseReconnect.len = s.len := rfl
@[simp] theorem State.pulseReconnect_idle (s : State) : s.pulseReconnect.idle = s.idle := rfl
@[simp] theorem State.pulseReconnect_lastRxTime (s : State) : s.pulseReconnect.lastRxTime = s.lastRxTime := rfl
@[simp] theorem State.pulseReconnect_now (s : State) : s.pulseReconnect.now = s.now := rfl
@[simp] theorem State.pulseReconnect_run (s : State) : s.pulseReconnect.run = s.run := rfl
@[simp] theorem State.pulseReconnect_stallWindow (s : State) : s.pulseReconnect.stallWindow = s.stallWindow := rfl
@[simp] theorem State.pulseReconnect_logEn (s : State) : s.pulseReconnect.logEn = s.logEn := rfl
@[simp] theorem State.pulseReconnect_tagBin (s : State) : s.pulseReconnect.tagBin = s.tagBin := rfl
@[simp] theorem State.pulseReconnect_tagAscii (s : State) : s.pulseReconnect.tagAscii = s.tagAscii := rfl
@[simp] theorem State.pulseReconnect_tagv (s : State) : s.pulseReconnect.tagv = s.tagv := rfl
@[simp] theorem State.pulseReconnect_done (s : State) : s.pulseReconnect.done = s.done := rfl
@[simp] theorem State.pulseReconnect_reconnectReq (s : State) : s.pulseReconnect.reconnectReq = true := rfl
@[simp] theorem State.pulseReconnect_diag (s : State) : s.pulseReconnect.diag = s.diag := rfl
@[simp] theorem State.pulseReconnect_inputs (s : State) : s.pulseReconnect.inputs = s.inputs := rfl
@[simp] theorem State.pulseReconnect_lastRead (s : State) : s.pulseReconnect.lastRead = s.lastRead := rfl
@[simp] theorem State.pulseReconnect_freeIndex (s : State) : s.pulseReconnect.freeIndex = s.freeIndex := rfl

/-! `writeSlot` -/

@[simp] theorem State.writeSlot_buf (s : State) (i : Nat) (b : Byte) : (s.writeSlot i b).buf = s.buf.setIfInBounds i b := rfl
@[simp] theorem State.writeSlot_len (s : State) (i : Nat) (b : Byte) : (s.writeSlot i b).len = s.len := rfl
@[simp] theorem State.writeSlot_idle (s : State) (i : Nat) (b : Byte) : (s.writeSlot i b).idle = s.idle := rfl
@[simp] theorem State.writeSlot_lastRxTime (s : State) (i : Nat) (b : Byte) : (s.writeSlot i b).lastRxTime = s.lastRxTime := rfl
@[simp] theorem State.writeSlot_now (s : State) (i : Nat) (b : Byte) : (s.writeSlot i b).now = s.now := rfl
@[simp] theorem State.writeSlot_run (s : State) (i : Nat) (b : Byte) : (s.writeSlot i b).run = s.run := rfl
@[simp] theorem State.writeSlot_stallWindow (s : State) (i : Nat) (b : Byte) : (s.writeSlot i b).stallWindow = s.stallWindow := rfl
@[simp] theorem State.writeSlot_logEn (s : State) (i : Nat) (b : Byte) : (s.writeSlot i b).logEn = s.logEn := rfl
@[simp] theorem State.writeSlot_tagBin (s : State) (i : Nat) (b : Byte) : (s.writeSlot i b).tagBin = s.tagBin := rfl
@[simp] theorem State.writeSlot_tagAscii (s : State) (i : Nat) (b : Byte) : (s.writeSlot i b).tagAscii = s.tagAscii := rfl
@[simp] theorem State.writeSlot_tagv (s : State) (i : Nat) (b : Byte) : (s.writeSlot i b).tagv = s.tagv := rfl
@[simp] theorem State.writeSlot_done (s : State) (i : Nat) (b : Byte) : (s.writeSlot i b).done = s.done := rfl
@[simp] theorem State.writeSlot_reconnectReq (s : State) (i : Nat) (b : Byte) : (s.writeSlot i b).reconnectReq = s.reconnectReq := rfl
@[simp] theorem State.writeSlot_diag (s : State) (i : Nat) (b : Byte) : (s.writeSlot i b).diag = s.diag := rfl
@[simp] theorem State.writeSlot_inputs (s : State) (i : Nat) (b : Byte) : (s.writeSlot i b).inputs = s.inputs := rfl
@[simp] theorem State.writeSlot_lastRead (s : State) (i : Nat) (b : Byte) : (s.writeSlot i b).lastRead = s.lastRead := rfl
@[simp] theorem State.writeSlot_freeIndex (s : State) (i : Nat) (b : Byte) : (s.writeSlot i b).freeIndex = s.freeIndex := rfl

/-! `withInputs` -/

@[simp] theorem State.withInputs_buf (s : State) (xs : List Input) : (s.withInputs xs).buf = s.buf := rfl
@[simp] theorem State.withInputs_len (s : State) (xs : List Input) : (s.withInputs xs).len = s.len := rfl
@[simp] theorem State.withInputs_idle (s : State) (xs : List Input) : (s.withInputs xs).idle = s.idle := rfl
@[simp] theorem State.withInputs_lastRxTime (s : State) (xs : List Input) : (s.withInputs xs).lastRxTime = s.lastRxTime := rfl
@[simp] theorem State.withInputs_now (s : State) (xs : List Input) : (s.withInputs xs).now = s.now := rfl
@[simp] theorem State.withInputs_run (s : State) (xs : List Input) : (s.withInputs xs).run = s.run := rfl
@[simp] theorem State.withInputs_stallWindow (s : State) (xs : List Input) : (s.withInputs xs).stallWindow = s.stallWindow := rfl
@[simp] theorem State.withInputs_logEn (s : State) (xs : List Input) : (s.withInputs xs).logEn = s.logEn := rfl
@[simp] theorem State.withInputs_tagBin (s : State) (xs : List Input) : (s.withInputs xs).tagBin = s.tagBin := rfl
@[simp] theorem State.withInputs_tagAscii (s : State) (xs : List Input) : (s.withInputs xs).tagAscii = s.tagAscii := rfl
@[simp] theorem State.withInputs_tagv (s : State) (xs : List Input) : (s.withInputs xs).tagv = s.tagv := rfl
@[simp] theorem State.withInputs_done (s : State) (xs : List Input) : (s.withInputs xs).done = s.done := rfl
@[simp] theorem State.withInputs_reconnectReq (s : State) (xs : List Input) : (s.withInputs xs).reconnectReq = s.reconnectReq := rfl
@[simp] theorem State.withInputs_diag (s : State) (xs : List Input) : (s.withInputs xs).diag = s.diag := rfl
@[simp] theorem State.withInputs_inputs (s : State) (xs : List Input) : (s.withInputs xs).inputs = xs := rfl
@[simp] theorem State.withInputs_lastRead (s : State) (xs : List Input) : (s.withInputs xs).lastRead = s.lastRead := rfl
@[simp] theorem State.withInputs_freeIndex (s : State) (xs : List Input) : (s.withInputs xs).freeIndex = s.freeIndex := rfl

end Sys2Proof.Machine
end

