-- ==== Sys2Proof/Laws/Ops.lean ====
section
/-! SUPPORT. Once for each shared operation: everything it can do, field by field, so that proofs cite these and do not
unfold the operation. -/

namespace Sys2Proof.Machine

/-! `logCause`: only `diag` can change -/

@[simp] theorem State.logCause_buf (s : State) (k : Cause) : (s.logCause k).buf = s.buf := rfl
@[simp] theorem State.logCause_len (s : State) (k : Cause) : (s.logCause k).len = s.len := rfl
@[simp] theorem State.logCause_idle (s : State) (k : Cause) : (s.logCause k).idle = s.idle := rfl
@[simp] theorem State.logCause_lastRxTime (s : State) (k : Cause) : (s.logCause k).lastRxTime = s.lastRxTime := rfl
@[simp] theorem State.logCause_now (s : State) (k : Cause) : (s.logCause k).now = s.now := rfl
@[simp] theorem State.logCause_run (s : State) (k : Cause) : (s.logCause k).run = s.run := rfl
@[simp] theorem State.logCause_stallWindow (s : State) (k : Cause) : (s.logCause k).stallWindow = s.stallWindow := rfl
@[simp] theorem State.logCause_logEn (s : State) (k : Cause) : (s.logCause k).logEn = s.logEn := rfl
@[simp] theorem State.logCause_tagBin (s : State) (k : Cause) : (s.logCause k).tagBin = s.tagBin := rfl
@[simp] theorem State.logCause_tagAscii (s : State) (k : Cause) : (s.logCause k).tagAscii = s.tagAscii := rfl
@[simp] theorem State.logCause_tagv (s : State) (k : Cause) : (s.logCause k).tagv = s.tagv := rfl
@[simp] theorem State.logCause_done (s : State) (k : Cause) : (s.logCause k).done = s.done := rfl
@[simp] theorem State.logCause_reconnectReq (s : State) (k : Cause) : (s.logCause k).reconnectReq = s.reconnectReq := rfl
@[simp] theorem State.logCause_inputs (s : State) (k : Cause) : (s.logCause k).inputs = s.inputs := rfl
@[simp] theorem State.logCause_lastRead (s : State) (k : Cause) : (s.logCause k).lastRead = s.lastRead := rfl
@[simp] theorem State.logCause_freeIndex (s : State) (k : Cause) : (s.logCause k).freeIndex = s.freeIndex := rfl

theorem State.logCause_diag (s : State) (k : Cause) :
    (s.logCause k).diag = if s.logEn then s.diag ||| k.diagBit else s.diag := rfl

/-! `raiseCause`: what no cause writes (60_exceptions.md R176) -/

@[simp] theorem raiseCause_buf (k : Cause) (s : State) : (raiseCause k s).buf = s.buf := by
  cases k <;> simp [raiseCause]
@[simp] theorem raiseCause_now (k : Cause) (s : State) : (raiseCause k s).now = s.now := by
  cases k <;> simp [raiseCause]
@[simp] theorem raiseCause_run (k : Cause) (s : State) : (raiseCause k s).run = s.run := by
  cases k <;> simp [raiseCause]
@[simp] theorem raiseCause_stallWindow (k : Cause) (s : State) : (raiseCause k s).stallWindow = s.stallWindow := by
  cases k <;> simp [raiseCause]
@[simp] theorem raiseCause_logEn (k : Cause) (s : State) : (raiseCause k s).logEn = s.logEn := by
  cases k <;> simp [raiseCause]
@[simp] theorem raiseCause_tagBin (k : Cause) (s : State) : (raiseCause k s).tagBin = s.tagBin := by
  cases k <;> simp [raiseCause]
@[simp] theorem raiseCause_tagAscii (k : Cause) (s : State) : (raiseCause k s).tagAscii = s.tagAscii := by
  cases k <;> simp [raiseCause]
@[simp] theorem raiseCause_tagv (k : Cause) (s : State) : (raiseCause k s).tagv = s.tagv := by
  cases k <;> simp [raiseCause]
@[simp] theorem raiseCause_done (k : Cause) (s : State) : (raiseCause k s).done = s.done := by
  cases k <;> simp [raiseCause]
@[simp] theorem raiseCause_inputs (k : Cause) (s : State) : (raiseCause k s).inputs = s.inputs := by
  cases k <;> simp [raiseCause]
@[simp] theorem raiseCause_lastRead (k : Cause) (s : State) : (raiseCause k s).lastRead = s.lastRead := by
  cases k <;> simp [raiseCause]
@[simp] theorem raiseCause_freeIndex (k : Cause) (s : State) : (raiseCause k s).freeIndex = s.freeIndex := by
  cases k <;> simp [raiseCause]

theorem raiseCause_transportTimeout (s : State) : raiseCause .transportTimeout s = s := rfl

theorem raiseCause_invalidLeadingByte (s : State) :
    raiseCause .invalidLeadingByte s = s.logCause .invalidLeadingByte := rfl

/-- A cause that destroys a frame leaves Idle with an empty buffer. -/
theorem raiseCause_idle_len (k : Cause) (s : State) (h1 : k ≠ .transportTimeout) (h2 : k ≠ .invalidLeadingByte) :
    (raiseCause k s).idle = true ∧ (raiseCause k s).len = 0#4 := by
  cases k <;> simp_all [raiseCause]

/-- Which causes ask for a reconnect (44_reconnect.md R151). -/
theorem raiseCause_reconnectReq (k : Cause) (s : State) :
    (raiseCause k s).reconnectReq = if k = .nonAsciiByte ∨ k = .stallTimeout then true else s.reconnectReq := by
  cases k <;> simp [raiseCause]

/-- Every reported cause sets its own bit of `diag` when logging is on, and nothing when it is off. -/
theorem raiseCause_diag (k : Cause) (s : State) (h : k ≠ .transportTimeout) :
    (raiseCause k s).diag = if s.logEn then s.diag ||| k.diagBit else s.diag := by
  cases k with
  | transportTimeout => exact absurd rfl h
  | invalidLeadingByte => exact State.logCause_diag _ _
  | nonAsciiByte => exact State.logCause_diag _ _
  | lengthMismatch => exact State.logCause_diag _ _
  | checksumMismatch => exact State.logCause_diag _ _
  | stallTimeout => exact State.logCause_diag _ _

/-- Only the stall rewrites the timestamp. -/
theorem raiseCause_lastRxTime (k : Cause) (s : State) :
    (raiseCause k s).lastRxTime = if k = .stallTimeout then s.now else s.lastRxTime := by
  cases k <;> simp [raiseCause]

/-! `emit` (41_frame_decoder.md R115) -/

@[simp] theorem emit_buf (t : TagBits) (s : State) : (emit t s).buf = s.buf := rfl
@[simp] theorem emit_len (t : TagBits) (s : State) : (emit t s).len = 0#4 := rfl
@[simp] theorem emit_idle (t : TagBits) (s : State) : (emit t s).idle = true := rfl
@[simp] theorem emit_lastRxTime (t : TagBits) (s : State) : (emit t s).lastRxTime = s.lastRxTime := rfl
@[simp] theorem emit_now (t : TagBits) (s : State) : (emit t s).now = s.now := rfl
@[simp] theorem emit_run (t : TagBits) (s : State) : (emit t s).run = false := rfl
@[simp] theorem emit_stallWindow (t : TagBits) (s : State) : (emit t s).stallWindow = s.stallWindow := rfl
@[simp] theorem emit_logEn (t : TagBits) (s : State) : (emit t s).logEn = s.logEn := rfl
@[simp] theorem emit_tagBin (t : TagBits) (s : State) : (emit t s).tagBin = t := rfl
@[simp] theorem emit_tagAscii (t : TagBits) (s : State) : (emit t s).tagAscii = dec10 t := rfl
@[simp] theorem emit_tagv (t : TagBits) (s : State) : (emit t s).tagv = true := rfl
@[simp] theorem emit_done (t : TagBits) (s : State) : (emit t s).done = true := rfl
@[simp] theorem emit_reconnectReq (t : TagBits) (s : State) : (emit t s).reconnectReq = s.reconnectReq := rfl
@[simp] theorem emit_diag (t : TagBits) (s : State) : (emit t s).diag = s.diag := rfl
@[simp] theorem emit_inputs (t : TagBits) (s : State) : (emit t s).inputs = s.inputs := rfl
@[simp] theorem emit_lastRead (t : TagBits) (s : State) : (emit t s).lastRead = s.lastRead := rfl
@[simp] theorem emit_freeIndex (t : TagBits) (s : State) : (emit t s).freeIndex = s.freeIndex := rfl

/-! `appendChar` (41_frame_decoder.md R112) -/

@[simp] theorem appendChar_idle (b : Byte) (s : State) : (appendChar b s).idle = s.idle := by
  unfold appendChar; split <;> rfl
@[simp] theorem appendChar_lastRxTime (b : Byte) (s : State) : (appendChar b s).lastRxTime = s.lastRxTime := by
  unfold appendChar; split <;> rfl
@[simp] theorem appendChar_now (b : Byte) (s : State) : (appendChar b s).now = s.now := by
  unfold appendChar; split <;> rfl
@[simp] theorem appendChar_run (b : Byte) (s : State) : (appendChar b s).run = s.run := by
  unfold appendChar; split <;> rfl
@[simp] theorem appendChar_stallWindow (b : Byte) (s : State) : (appendChar b s).stallWindow = s.stallWindow := by
  unfold appendChar; split <;> rfl
@[simp] theorem appendChar_logEn (b : Byte) (s : State) : (appendChar b s).logEn = s.logEn := by
  unfold appendChar; split <;> rfl
@[simp] theorem appendChar_tagBin (b : Byte) (s : State) : (appendChar b s).tagBin = s.tagBin := by
  unfold appendChar; split <;> rfl
@[simp] theorem appendChar_tagAscii (b : Byte) (s : State) : (appendChar b s).tagAscii = s.tagAscii := by
  unfold appendChar; split <;> rfl
@[simp] theorem appendChar_tagv (b : Byte) (s : State) : (appendChar b s).tagv = s.tagv := by
  unfold appendChar; split <;> rfl
@[simp] theorem appendChar_done (b : Byte) (s : State) : (appendChar b s).done = s.done := by
  unfold appendChar; split <;> rfl
@[simp] theorem appendChar_reconnectReq (b : Byte) (s : State) : (appendChar b s).reconnectReq = s.reconnectReq := by
  unfold appendChar; split <;> rfl
@[simp] theorem appendChar_diag (b : Byte) (s : State) : (appendChar b s).diag = s.diag := by
  unfold appendChar; split <;> rfl
@[simp] theorem appendChar_inputs (b : Byte) (s : State) : (appendChar b s).inputs = s.inputs := by
  unfold appendChar; split <;> rfl
@[simp] theorem appendChar_lastRead (b : Byte) (s : State) : (appendChar b s).lastRead = s.lastRead := by
  unfold appendChar; split <;> rfl
@[simp] theorem appendChar_freeIndex (b : Byte) (s : State) : (appendChar b s).freeIndex = s.freeIndex := by
  unfold appendChar; split <;> rfl

theorem appendChar_len (b : Byte) (s : State) :
    (appendChar b s).len = if s.len < Config.payloadLen then s.len + 1#4 else Config.overLength := by
  unfold appendChar; split <;> rfl

theorem appendChar_buf (b : Byte) (s : State) :
    (appendChar b s).buf = if s.len < Config.payloadLen then s.buf.setIfInBounds s.len.toNat b else s.buf := by
  unfold appendChar; split <;> rfl

/-! The frame buffer: a read after a write -/

theorem State.writeSlot_same (s : State) (i : Nat) (b : Byte) (h : i < 12) : (s.writeSlot i b).buf[i] = b := by
  simp

theorem State.writeSlot_other (s : State) (i j : Nat) (b : Byte) (h : j < 12) (hne : i ≠ j) :
    (s.writeSlot i b).buf[j] = s.buf[j] := by
  simp [hne]

/-! `closeFrame`, `takeByte` -/

/-- The three outcomes of the end marker (41_frame_decoder.md R114). -/
theorem closeFrame_cases (s : State) :
    (s.len ≠ Config.payloadLen ∧ closeFrame s = raiseCause .lengthMismatch s) ∨
    (s.len = Config.payloadLen ∧ validTag s.buf = none ∧ closeFrame s = raiseCause .checksumMismatch s) ∨
    (∃ t, s.len = Config.payloadLen ∧ validTag s.buf = some t ∧ closeFrame s = emit t s) := by
  unfold closeFrame State.readFrame
  by_cases h : s.len = Config.payloadLen
  · cases hv : validTag s.buf with
    | none => exact .inr (.inl ⟨h, rfl, by simp [h]⟩)
    | some t => exact .inr (.inr ⟨t, h, rfl, by simp [h]⟩)
  · exact .inl ⟨h, by simp [h]⟩

theorem takeByte_happens (mode : Bool) (f : State → State) (s : State) (hr : s.run = true) (hi : s.idle = mode) :
    takeByte mode f s = .next (f s.stamp) := by
  simp [takeByte, hr, hi]

theorem takeByte_stopped (mode : Bool) (f : State → State) (s : State) (hr : s.run = false) :
    takeByte mode f s = .next s := by
  simp [takeByte, hr]

theorem takeByte_otherMode (mode : Bool) (f : State → State) (s : State) (hi : s.idle = !mode) :
    takeByte mode f s = .next s := by
  cases mode <;> simp_all [takeByte]

/-- A byte event either happens, in a running invocation and its own mode, or changes nothing. -/
theorem takeByte_cases (mode : Bool) (f : State → State) (s t : State) (h : takeByte mode f s = .next t) :
    (s.run = true ∧ s.idle = mode ∧ t = f s.stamp) ∨ ((s.run = false ∨ s.idle = !mode) ∧ t = s) := by
  unfold takeByte at h
  split at h
  · next hg =>
    simp only [Bool.and_eq_true, beq_iff_eq] at hg
    exact .inl ⟨hg.1, hg.2, (Host.Outcome.next.inj h).symm⟩
  · next hg =>
    refine .inr ⟨?_, (Host.Outcome.next.inj h).symm⟩
    cases hr : s.run <;> cases mode <;> simp_all

end Sys2Proof.Machine
end

