-- ==== Sys2Proof/Laws/Cycle.lean ====
section
/-! SUPPORT. Running events in order, and what one step does with each kind of input. -/

namespace Sys2Proof.Machine

@[simp] theorem andThen_next (s : State) (f : State → Answer) : Answer.andThen (.next s) f = f s := rfl

theorem andThen_eq_next (o : Answer) (f : State → Answer) (t : State) :
    Answer.andThen o f = .next t ↔ ∃ u, o = .next u ∧ f u = .next t := by
  cases o <;> simp [Answer.andThen]

@[simp] theorem runEvents_nil (s : State) : runEvents [] s = .next s := rfl

theorem runEvents_cons (i : Instr) (is : List Instr) (s : State) :
    runEvents (i :: is) s = Answer.andThen (exec i s) (runEvents is) := rfl

theorem runEvents_append (is js : List Instr) (s : State) :
    runEvents (is ++ js) s = Answer.andThen (runEvents is s) (runEvents js) := by
  induction is generalizing s with
  | nil => rfl
  | cons i is ih =>
    simp only [List.cons_append, runEvents_cons]
    cases exec i s <;> simp [Answer.andThen, ih]

theorem runEvents_single (i : Instr) (s : State) : runEvents [i] s = exec i s := by
  rw [runEvents_cons]
  cases exec i s <;> rfl

/-- A cycle under `rst` is `RESET` and nothing else (20_memory.md R64 step 1). -/
theorem portCycle_rst (p : Ports) (s : State) (h : p.rst = true) : portCycle p s = exec .reset s := by
  simp [portCycle, h]

/-- A cycle without `rst` is the trace cycle of the events its ports produce. -/
theorem portCycle_events (p : Ports) (s : State) (h : p.rst = false) :
    portCycle p s = runCycle (portEvents p s) s := by
  simp [portCycle, h]

theorem step_nil (s : State) (h : s.inputs = []) : step s = .next s := by
  simp [step, h]

theorem step_cons (s : State) (x : Input) (xs : List Input) (h : s.inputs = x :: xs) :
    step s = x.run (s.withInputs xs) := by
  simp [step, h]

end Sys2Proof.Machine
end

