-- ==== Sys2Proof/Laws/Operands.lean ====
section
/-! SUPPORT. When the functions of the checksum validator have a value, said once, so that proofs do not unfold them. -/

namespace Sys2Proof.Machine

theorem hexPair_some {hi lo : Byte} {h l : Nibble} (hh : hexval hi = some h) (hl : hexval lo = some l) :
    hexPair hi lo = some (h ++ l) := by
  simp [hexPair, hh, hl]

/-- A pair has a value exactly when both its characters have one. -/
theorem hexPair_eq_none (hi lo : Byte) : hexPair hi lo = none ↔ hexval hi = none ∨ hexval lo = none := by
  unfold hexPair
  cases hexval hi <;> cases hexval lo <;> simp

/-- Every character of an all-hex payload has a value, and only there. -/
theorem allHex_iff (p : Payload) : allHex p = true ↔ ∀ i : Fin 12, hexval p[i.val] ≠ none := by
  simp only [allHex, List.all_eq_true, ishex, Option.isSome_iff_ne_none, Vector.mem_toList_iff,
    Vector.mem_iff_getElem]
  exact ⟨fun h i => h _ ⟨i.val, i.isLt, rfl⟩, fun h c ⟨i, hi, e⟩ => e ▸ h ⟨i, hi⟩⟩

/-- Every pair of an all-hex payload has a value. -/
theorem pair_some_of_allHex (p : Payload) (h : allHex p = true) (i : Fin 6) : ∃ v, pair p i = some v := by
  refine Option.ne_none_iff_exists'.mp fun hn => ?_
  rcases (hexPair_eq_none _ _).mp hn with e | e
  · exact (allHex_iff p).mp h ⟨2 * i.val, by omega⟩ e
  · exact (allHex_iff p).mp h ⟨2 * i.val + 1, by omega⟩ e

/-- An all-hex payload has a tag value. -/
theorem tagValue_some_of_allHex (p : Payload) (h : allHex p = true) : ∃ t, tagValue p = some t := by
  obtain ⟨a, ha⟩ := pair_some_of_allHex p h 1
  obtain ⟨b, hb⟩ := pair_some_of_allHex p h 2
  obtain ⟨c, hc⟩ := pair_some_of_allHex p h 3
  obtain ⟨d, hd⟩ := pair_some_of_allHex p h 4
  exact ⟨a ++ b ++ c ++ d, by simp only [tagValue, ha, hb, hc, hd]⟩

theorem allHex_of_checksumValid (p : Payload) (h : checksumValid p = true) : allHex p = true := by
  simp only [checksumValid, Bool.and_eq_true] at h
  exact h.1

/-- A payload yields no identifier exactly when it does not validate: a missing tag value is never the reason. -/
theorem validTag_eq_none (p : Payload) : validTag p = none ↔ checksumValid p = false := by
  unfold validTag
  split
  · next h =>
    obtain ⟨t, ht⟩ := tagValue_some_of_allHex p (allHex_of_checksumValid p h)
    simp [ht, h]
  · next h => simpa using h

/-- A payload yields an identifier exactly when it validates, and then it is the payload's tag value. -/
theorem validTag_eq_some (p : Payload) (t : TagBits) :
    validTag p = some t ↔ checksumValid p = true ∧ tagValue p = some t := by
  unfold validTag
  split <;> simp_all

end Sys2Proof.Machine
end

