-- ==== Sys2Proof/Laws/PerInstr.lean ====
section
/-! SUPPORT. A statement about every event as syntax: its word carries its kind in bits 23:21 (30_encoding.md R83). -/

namespace Sys2Proof.Laws.EncodeKind

/-- The word of `i` has the kind of `i`. -/
def Statement (i : Instr) : Prop := (encode i).extractLsb' 21 3 = i.kind

theorem reset : Statement .reset := rfl
theorem rxStart : Statement .rxStart := rfl
theorem rxSkip (b : Byte) : Statement (.rxSkip b) := by revert b; unfold Statement; decide
theorem rxEnd : Statement .rxEnd := rfl
theorem rxNonascii (b : Byte) : Statement (.rxNonascii b) := by revert b; unfold Statement; decide
theorem rxData (b : Byte) : Statement (.rxData b) := by revert b; unfold Statement; decide
theorem nodata : Statement .nodata := rfl
theorem tick : Statement .tick := rfl
theorem invoke : Statement .invoke := rfl
theorem cfgwr (a : CfgAddr) (d : CfgWord) : Statement (.cfgwr a d) := by
  simp only [Statement, encode, formatC, Instr.kind]
  apply BitVec.eq_of_getLsbD_eq
  intro i hi
  interval_cases i <;> simp
theorem cfgrd (a : CfgAddr) : Statement (.cfgrd a) := by revert a; unfold Statement; decide
theorem wake : Statement .wake := rfl

end Sys2Proof.Laws.EncodeKind
end

