-- ==== Sys2Proof/Tests/Slice0.lean ====
section
/-! SUPPORT. Small checks of the model against values worked out from the spec's text (its section is named at each group),
and, for every obligation with hypotheses, a concrete case that meets them all (`witness_…`). -/

namespace Sys2Proof.Tests

open Sys2Proof.Machine

/-- The state of an answer, if it is a next state. -/
def after (o : Answer) : Option State :=
  match o with
  | .next t => some t
  | .fault _ => none
  | .refused _ => none

/-- "001234ABCD40", the reference payload (30_encoding.md R96). -/
def refPayload : Payload := #v[0x30, 0x30, 0x31, 0x32, 0x33, 0x34, 0x41, 0x42, 0x43, 0x44, 0x34, 0x30]

/-- "00GG34ABCD40". -/
def nonHexPayload : Payload := #v[0x30, 0x30, 0x47, 0x47, 0x33, 0x34, 0x41, 0x42, 0x43, 0x44, 0x34, 0x30]

/-- "001234abcd41". -/
def badPayload : Payload := #v[0x30, 0x30, 0x31, 0x32, 0x33, 0x34, 0x61, 0x62, 0x63, 0x64, 0x34, 0x31]

/-- Invoked, scanning: the state SI of 95_test_vectors.md. -/
def scanning : State := { State.reset with run := true }

/-- Collecting with `n` characters of payload `p`: the states SC of 95_test_vectors.md. -/
def collecting (p : Payload) (n : FrameLen) : State := { scanning with idle := false, len := n, buf := p }

/-- A frame in progress whose last byte came at `last`, at time `now`, with window `w`. -/
def waiting (last now : Time) (w : CfgWord) : State :=
  { collecting refPayload 5 with lastRxTime := last, now := now, stallWindow := w }

/-! Well-formedness: each check refuses a term -/

theorem test_wf_refuses_skip_of_start : (Instr.rxSkip 0x02).wf = false := by decide
theorem test_wf_refuses_nonascii_of_7F : (Instr.rxNonascii 0x7F).wf = false := by decide
theorem test_wf_refuses_data_of_80 : (Instr.rxData 0x80).wf = false := by decide
theorem test_wf_refuses_data_of_end : (Instr.rxData 0x03).wf = false := by decide
theorem test_wf_accepts_boundaries :
    (Instr.rxSkip 0x03).wf ∧ (Instr.rxNonascii 0x80).wf ∧ (Instr.rxData 0x7F).wf ∧ (Instr.rxData 0x02).wf := by decide

/-! Decoding: words written out bit by bit from 30_encoding.md R83 and R84 -/

theorem test_decode_reset : decode 0b111000000000000000000000#24 = .reset := by decide
theorem test_decode_rxStart : decode 0b000000000000000000000010#24 = .rxStart := by decide
theorem test_decode_rxSkip : decode 0b000000000000000000000011#24 = .rxSkip 0x03 := by decide
theorem test_decode_rxEnd : decode 0b000000000000000100000011#24 = .rxEnd := by decide
theorem test_decode_rxNonascii : decode 0b000000000000000110000000#24 = .rxNonascii 0x80 := by decide
theorem test_decode_rxData : decode 0b000000000000000101111111#24 = .rxData 0x7F := by decide
theorem test_decode_nodata : decode 0b001000000000000000000000#24 = .nodata := by decide
theorem test_decode_tick : decode 0b010000000000000000000000#24 = .tick := by decide
theorem test_decode_invoke : decode 0b011000000000000000000000#24 = .invoke := by decide
theorem test_decode_cfgwr : decode 0b100000010000000000000101#24 = .cfgwr 1 0x0005 := by decide
theorem test_decode_cfgrd : decode 0b101000100000000000000000#24 = .cfgrd 2 := by decide
theorem test_decode_wake : decode 0b110000000000000000000000#24 = .wake := by decide
theorem test_decode_ignores_unnamed_bits :
    decode 0x1FFE02#24 = .rxStart ∧ decode 0x9FFFFF#24 = .cfgwr 3 0xFFFF ∧ decode 0xBFFFFF#24 = .cfgrd 3 := by decide
theorem test_decode_rejects_overlong : decodeNat 0x1000000 = .error .overlongWord := by rfl
theorem test_decodeTableWord : decodeTableWord 24 0x000141 = some (.rxData 0x41) := by decide

/-- The event words of the reference frame (30_encoding.md R96). -/
theorem test_encode_reference_frame :
    encode .rxStart = 0x000002#24 ∧ encode (.rxData 0x44) = 0x000144#24 ∧ encode .rxEnd = 0x000103#24 := by decide

/-! The functions: 95_test_vectors.md V-HEX, V-PAIR, V-FOLD, V-TAG, V-DEC -/

theorem test_hexval_edges :
    hexval 0x2F = none ∧ hexval 0x30 = some 0 ∧ hexval 0x39 = some 9 ∧ hexval 0x3A = none ∧ hexval 0x40 = none ∧
    hexval 0x41 = some 10 ∧ hexval 0x46 = some 15 ∧ hexval 0x47 = none ∧ hexval 0x60 = none ∧
    hexval 0x61 = some 10 ∧ hexval 0x66 = some 15 ∧ hexval 0x67 = none := by decide
theorem test_pair_mixed_case : hexPair 0x61 0x42 = some 0xAB ∧ hexPair 0x46 0x30 = some 0xF0 := by decide
theorem test_xorfold_reference : xorfold refPayload = some 0x40 := by decide
theorem test_checksum_reference : checksumValid refPayload = true := by decide
theorem test_checksum_field_off_by_one : checksumValid badPayload = false := by decide
theorem test_checksum_twelve_zeros : checksumValid (Vector.replicate 12 0x30) = true := by decide
theorem test_tagValue_reference : tagValue refPayload = some 0x1234ABCD := by decide
theorem test_dec10_reference : dec10 0x1234ABCD = 0x30333035343431373431 := by decide
theorem test_dec10_largest : dec10 0xFFFFFFFF = 0x34323934393637323935 := by decide

/-! The events: 95_test_vectors.md V-INVOKE to V-RESET -/

theorem test_invoke_starts : (after (exec .invoke { State.reset with now := 41 })).map
    (fun t => (t.run, t.lastRxTime, t.readCfg 2)) = some (true, 41, 0x0003) := by decide
theorem test_rxStart_collects : (after (exec .rxStart { scanning with now := 7 })).map
    (fun t => (t.idle, t.len, t.lastRxTime, t.readCfg 2)) = some (false, 0, 7, 0x0001) := by decide
theorem test_rxSkip_reports_no_reconnect : (after (exec (.rxSkip 0xFF) { scanning with logEn := true })).map
    (fun t => (t.idle, t.diag, t.reconnectReq)) = some (true, 0b000010, false) := by decide
theorem test_rxData_stores : (after (exec (.rxData 0x41) (collecting refPayload 3))).map
    (fun t => (t.len, t.buf[3], t.buf[2])) = some (4, 0x41, 0x31) := by decide
theorem test_rxData_counts_beyond_twelve : (after (exec (.rxData 0x35) (collecting refPayload 12))).map
    (fun t => (t.len, t.buf, t.readCfg 2)) = some (13, refPayload, 0x0035) := by decide
theorem test_rxEnd_emits : (after (exec .rxEnd (collecting refPayload 12))).map
    (fun t => (t.run, t.tagBin, t.tagAscii, t.done, t.readCfg 2)) =
      some (false, 0x1234ABCD, 0x30333035343431373431, true, 0x0042) := by decide
theorem test_rxEnd_length_wins : (after (exec .rxEnd { collecting refPayload 13 with logEn := true })).map
    (fun t => (t.run, t.idle, t.len, t.diag)) = some (true, true, 0, 0b001000) := by decide
theorem test_rxNonascii_reconnects : (after (exec (.rxNonascii 0x83) { collecting refPayload 12 with logEn := true })).map
    (fun t => (t.idle, t.reconnectReq, t.diag, t.rxReady)) = some (true, true, 0b000100, false) := by decide
theorem test_nodata_keeps_frame : (after (exec .nodata (waiting 3 9 10))).map
    (fun t => (t.len, t.lastRxTime)) = some (5, 3) := by decide
theorem test_tick_wraps : (after (exec .tick { State.reset with now := 0xFFFFFFFF })).map State.now = some 0 := by decide
theorem test_wake_is_strict : (after (exec .wake (waiting 100 110 10))).map State.idle = some false := by decide
theorem test_wake_fires_across_wrap : (after (exec .wake (waiting 0xFFFFFFFE 1 2))).map
    (fun t => (t.idle, t.lastRxTime, t.reconnectReq, t.run)) = some (true, 1, true, true) := by decide
theorem test_cfgwr_control_bit : (after (exec (.cfgwr 1 0xFFFE) { scanning with logEn := true })).map State.logEn =
    some false := by decide
theorem test_cfgrd_status : (after (exec (.cfgrd 2) (collecting refPayload 5))).map State.lastRead =
    some (some 0x0015) := by decide
theorem test_reset_restores : (after (exec .reset { waiting 498 500 3 with logEn := true })).map
    (fun t => (t.now, t.stallWindow, t.logEn, t.readCfg 2)) = some (0, 10, false, 0x0002) := by decide

/-! Cycles: 95_test_vectors.md V-CYCLE (the state Q) and the host's placing of a word -/

theorem test_cycle_byte_rescues : (after (portCycle { tick := true, rxValid := true, rxData := 0x37 } (waiting 100 110 10))).map
    (fun t => (t.now, t.len, t.lastRxTime, t.idle)) = some (111, 6, 111, false) := by decide
theorem test_cycle_write_after_check :
    (after (portCycle { tick := true, cfgWe := true, cfgWdata := 0xFFFF } (waiting 100 110 10))).map
    (fun t => (t.idle, t.reconnectReq, t.stallWindow)) = some (true, true, 0xFFFF) := by decide
theorem test_cycle_invoke_takes_no_byte :
    (after (portCycle { invoke := true, rxValid := true, rxData := 0x02 } State.reset)).map
    (fun t => (t.run, t.idle)) = some (true, true) := by decide
theorem test_step_runs_placed_word : (after (step (State.reset.withFetchWord 24 0x80000A))).map
    (fun t => (t.stallWindow, t.inputs)) = some (10, []) := by decide
theorem test_goodFrame_reference :
    Trace.goodFrame #v[0x30, 0x30, 0x31, 0x32, 0x33, 0x34, 0x41, 0x42, 0x43, 0x44] =
      some (Trace.frame refPayload.toList) := by decide

/-! Witnesses of the obligations' hypotheses -/

theorem witness_PairHighNibbleFirst :
    (hexval refPayload[0] = some 0 ∧ hexval refPayload[1] = some 0) ∧
    (hexval refPayload[10] = some 4 ∧ hexval refPayload[11] = some 0) := by decide

theorem witness_XorfoldIsParityOfFivePairs :
    pair refPayload 0 = some 0x00 ∧ pair refPayload 1 = some 0x12 ∧ pair refPayload 2 = some 0x34 ∧
    pair refPayload 3 = some 0xAB ∧ pair refPayload 4 = some 0xCD := by decide

theorem witness_NonHexFrameIsDiscarded :
    (collecting nonHexPayload 12).run = true ∧ (collecting nonHexPayload 12).idle = false ∧
    (collecting nonHexPayload 12).len = 12#4 ∧ hexval (collecting nonHexPayload 12).buf[(2 : Fin 12).val] = none := by
  decide

theorem witness_TagValueIsPositionsTwoToNine :
    ∀ k : Fin 8, hexval refPayload[2 + k.val] = some (#v[1, 2, 3, 4, 10, 11, 12, 13][k.val] : Nibble) := by decide

theorem witness_OneChangedDigitInvalidates :
    checksumValid refPayload = true ∧
    (hexval 0x31 ≠ none ∧ hexval 0x31 ≠ hexval refPayload[(0 : Fin 12).val]) ∧
    (hexval 0x66 ≠ none ∧ hexval 0x66 ≠ hexval refPayload[(11 : Fin 12).val]) ∧
    (hexval 0x61 ≠ none ∧ hexval 0x61 = hexval refPayload[(6 : Fin 12).val]) := by decide

/-- "00CD34AB1240", the reference payload with pairs 1 and 4 exchanged. -/
def swappedPayload : Payload := #v[0x30, 0x30, 0x43, 0x44, 0x33, 0x34, 0x41, 0x42, 0x31, 0x32, 0x34, 0x30]

theorem witness_SwappedDataPairsStayValid :
    (∀ k : Fin 5, swappedPayload[2 * k.val] = refPayload[2 * (Equiv.swap (1 : Fin 5) 4 k).val] ∧
      swappedPayload[2 * k.val + 1] = refPayload[2 * (Equiv.swap (1 : Fin 5) 4 k).val + 1]) ∧
    swappedPayload[10] = refPayload[10] ∧ swappedPayload[11] = refPayload[11] := by decide

/-- "101234ABCD50", the reference payload with 0x10 XOR-ed into pairs 0 and 5. -/
def maskedPayload : Payload := #v[0x31, 0x30, 0x31, 0x32, 0x33, 0x34, 0x41, 0x42, 0x43, 0x44, 0x35, 0x30]

/-- The pair values of `refPayload`. -/
def refPairs : Fin 6 → Byte := ![0x00, 0x12, 0x34, 0xAB, 0xCD, 0x40]

/-- The pair values of `maskedPayload`. -/
def maskedPairs : Fin 6 → Byte := ![0x10, 0x12, 0x34, 0xAB, 0xCD, 0x50]

theorem witness_SameMaskInTwoPairsKeepsVerdict :
    (∀ k, pair refPayload k = some (refPairs k)) ∧ (∀ k, pair maskedPayload k = some (maskedPairs k)) ∧
    (0 : Fin 6) ≠ 5 ∧ maskedPairs 0 = refPairs 0 ^^^ 0x10 ∧ maskedPairs 5 = refPairs 5 ^^^ 0x10 ∧
    (∀ k, k ≠ 0 → k ≠ 5 → maskedPairs k = refPairs k) := by decide

theorem witness_DecodeEncodeRoundTrip :
    (Instr.rxSkip 0xFF).wf = true ∧ (Instr.rxNonascii 0x80).wf = true ∧ (Instr.rxData 0x7F).wf = true ∧
    (Instr.cfgwr 3 0xFFFF).wf = true ∧ (Instr.wake).wf = true := by decide

theorem witness_DecoderReadsNamedBitsOnly :
    (0x1FFFFF#24).extractLsb' 21 3 = 0b000#3 ∧ (0x3FFFFF#24).extractLsb' 21 3 = 0b001#3 ∧
    (0x5FFFFF#24).extractLsb' 21 3 = 0b010#3 ∧ (0x7FFFFF#24).extractLsb' 21 3 = 0b011#3 ∧
    (0x9FFFFF#24).extractLsb' 21 3 = 0b100#3 ∧ (0xBFFFFF#24).extractLsb' 21 3 = 0b101#3 ∧
    (0xDFFFFF#24).extractLsb' 21 3 = 0b110#3 ∧ (0xFFFFFF#24).extractLsb' 21 3 = 0b111#3 := by decide

theorem witness_OpcodeTableAgreesWithDecoder :
    (⟨"RX.START", 0x000002#24, 0xE001FF#24⟩ : OpcodeRow) ∈ opcodeTable ∧
    (⟨"RX.SKIP", 0x000000#24, 0xE00100#24⟩ : OpcodeRow) ∈ opcodeTable ∧
    0x000002#24 &&& 0xE001FF#24 = 0x000002#24 ∧ 0x000002#24 &&& 0xE00100#24 = 0x000000#24 ∧
    (⟨"RX.END", 0x000103#24, 0xE001FF#24⟩ : OpcodeRow) ∈ opcodeTable ∧
    (⟨"RX.DATA", 0x000100#24, 0xE00180#24⟩ : OpcodeRow) ∈ opcodeTable ∧
    0x000103#24 &&& 0xE001FF#24 = 0x000103#24 ∧ 0x000103#24 &&& 0xE00180#24 = 0x000100#24 := by decide

theorem witness_ByteClassOfEveryByte :
    (0x02#8).toNat = 0x02 ∧ (0x01#8).toNat ≠ 0x02 ∧ (0x03#8).toNat = 0x03 ∧ 0x80 ≤ (0x80#8).toNat ∧
    ((0x7F#8).toNat ≤ 0x7F ∧ (0x7F#8).toNat ≠ 0x03) ∧ ((0x04#8).toNat ≤ 0x7F ∧ (0x04#8).toNat ≠ 0x03) := by decide

theorem witness_EveryWordDecodesWellFormed : 2 ^ 24 ≤ 0x1000000 ∧ 0x1000000 < 2 ^ 32 := by decide

theorem witness_InvokeStartsInvocation :
    State.reset.run = false ∧ (0x600000#24).extractLsb' 21 3 = 0b011#3 := by decide

theorem witness_InvokeWhileRunningIsIgnored : (collecting refPayload 5).run = true := by decide

theorem witness_ByteEventCommonPart : scanning.run = true ∧ State.reset.run = false := by decide

theorem witness_ByteEventOfOtherModeIsIgnored :
    (collecting refPayload 5).idle = false ∧ scanning.idle = true := by decide

theorem witness_RxStartBeginsFrame :
    scanning.run = true ∧ scanning.idle = true ∧ (0x1FFE02#24).extractLsb' 21 3 = 0b000#3 ∧
    (0x1FFE02#24).getLsbD 8 = false ∧ (0x1FFE02#24).extractLsb' 0 8 = 0x02#8 := by decide

theorem witness_RxSkipDropsByte :
    scanning.run = true ∧ scanning.idle = true ∧ 0x03#8 ≠ 0x02#8 ∧ 0xFF#8 ≠ 0x02#8 ∧
    (0x0000FF#24).extractLsb' 21 3 = 0b000#3 ∧ (0x0000FF#24).getLsbD 8 = false ∧
    (0x0000FF#24).extractLsb' 0 8 ≠ 0x02#8 := by decide

theorem witness_RxDataAppendsOrCounts :
    ((collecting refPayload 11).run = true ∧ (collecting refPayload 11).idle = false ∧
      (collecting refPayload 11).len.toNat < 12 ∧ 0x7F#8 ≤ 0x7F#8 ∧ 0x7F#8 ≠ 0x03#8) ∧
    ((collecting refPayload 12).run = true ∧ (collecting refPayload 12).idle = false ∧
      12 ≤ (collecting refPayload 12).len.toNat ∧ 0x02#8 ≤ 0x7F#8 ∧ 0x02#8 ≠ 0x03#8) ∧
    ((0x00017F#24).extractLsb' 21 3 = 0b000#3 ∧ (0x00017F#24).getLsbD 8 = true ∧
      (0x00017F#24).getLsbD 7 = false ∧ (0x00017F#24).extractLsb' 0 8 ≠ 0x03#8) := by decide

theorem witness_RxEndOutcomes :
    (∀ n ∈ [0#4, 11#4, 13#4], (collecting refPayload n).run = true ∧ (collecting refPayload n).idle = false ∧
      (collecting refPayload n).len ≠ 12#4) ∧
    ((collecting badPayload 12).run = true ∧ (collecting badPayload 12).idle = false ∧
      (collecting badPayload 12).len = 12#4 ∧ checksumValid (collecting badPayload 12).buf = false) ∧
    ((collecting refPayload 12).run = true ∧ (collecting refPayload 12).idle = false ∧
      (collecting refPayload 12).len = 12#4 ∧ checksumValid (collecting refPayload 12).buf = true) ∧
    ((0x000103#24).extractLsb' 21 3 = 0b000#3 ∧ (0x000103#24).getLsbD 8 = true ∧
      (0x000103#24).extractLsb' 0 8 = 0x03#8) := by decide

theorem witness_EmitEndsTheInvocation :
    (collecting refPayload 12).run = true ∧ (collecting refPayload 12).idle = false ∧
    (collecting refPayload 12).len = 12#4 ∧ checksumValid (collecting refPayload 12).buf = true ∧
    tagValue (collecting refPayload 12).buf = some 0x1234ABCD#32 := by decide

theorem witness_NonAsciiDiscardsAndReconnects :
    (collecting refPayload 0).run = true ∧ (collecting refPayload 0).idle = false ∧ 0x80#8 ≤ 0x80#8 ∧ 0x80#8 ≤ 0xFF#8 ∧
    (0x000180#24).extractLsb' 21 3 = 0b000#3 ∧ (0x000180#24).getLsbD 8 = true ∧ (0x000180#24).getLsbD 7 = true := by
  decide

theorem witness_NodataChangesNothing : (0x3FFFFF#24).extractLsb' 21 3 = 0b001#3 := by decide

theorem witness_TickAdvancesNow :
    (0x400000#24).extractLsb' 21 3 = 0b010#3 ∧ ({ tick := true } : Ports).tick = true := by decide

theorem witness_WakeChecksAndFires :
    ((waiting 100 111 10).run = true ∧ (waiting 100 111 10).idle = false ∧
      (waiting 100 111 10).stallWindow.toNat <
        ((waiting 100 111 10).now.toNat + 2 ^ 32 - (waiting 100 111 10).lastRxTime.toNat) % 2 ^ 32) ∧
    ((waiting 100 110 10).now.toNat + 2 ^ 32 - (waiting 100 110 10).lastRxTime.toNat) % 2 ^ 32 ≤
      (waiting 100 110 10).stallWindow.toNat ∧
    State.reset.run = false ∧ scanning.idle = true ∧ (0xC00000#24).extractLsb' 21 3 = 0b110#3 := by decide

theorem witness_CfgwrWritesRegister :
    (0x810001#24).extractLsb' 21 3 = 0b100#3 ∧ ({ cfgWe := true } : Ports).cfgWe = true := by decide

theorem witness_CfgrdReturnsRegister : (0xA20000#24).extractLsb' 21 3 = 0b101#3 := by decide

theorem witness_ResetEventRestoresValues :
    (0xFFFFFF#24).extractLsb' 21 3 = 0b111#3 ∧ ({ rst := true } : Ports).rst = true := by decide

theorem witness_RunFallsOnlyByEmitOrReset :
    (∃ t, exec .rxEnd (collecting refPayload 12) = .next t ∧ (collecting refPayload 12).run = true ∧ t.run = false) ∧
    ∃ t, exec .reset scanning = .next t ∧ scanning.run = true ∧ t.run = false :=
  ⟨⟨_, rfl, by decide, by decide⟩, ⟨_, rfl, by decide, rfl⟩⟩

theorem witness_ReconnectOnlyByTwoEvents :
    (waiting 100 111 10).reconnectReq = false ∧
    (∃ t, exec .wake (waiting 100 111 10) = .next t ∧ t.reconnectReq = true) ∧
    ∃ t, exec (.rxNonascii 0x80) (waiting 100 111 10) = .next t ∧ t.reconnectReq = true :=
  ⟨by decide, ⟨_, rfl, by decide⟩, ⟨_, rfl, by decide⟩⟩

theorem witness_EachElementHasItsWriters :
    (∃ t, exec (.rxData 0x42) (collecting refPayload 5) = .next t ∧ t.buf ≠ (collecting refPayload 5).buf ∧
      t.len ≠ (collecting refPayload 5).len) ∧
    (∃ t, exec .wake (waiting 100 111 10) = .next t ∧ t.len ≠ (waiting 100 111 10).len ∧
      t.lastRxTime ≠ (waiting 100 111 10).lastRxTime) ∧
    (∃ t, exec .tick scanning = .next t ∧ t.now ≠ scanning.now) ∧
    (∃ t, exec (.cfgwr 0 3) scanning = .next t ∧ t.stallWindow ≠ scanning.stallWindow) ∧
    ∃ t, exec .rxEnd (collecting refPayload 12) = .next t ∧ t.tagBin ≠ (collecting refPayload 12).tagBin ∧
      t.tagv ≠ (collecting refPayload 12).tagv ∧ t.idle ≠ (collecting refPayload 12).idle ∧
      t.run ≠ (collecting refPayload 12).run ∧ t.done ≠ (collecting refPayload 12).done :=
  ⟨⟨_, rfl, by decide, by decide⟩, ⟨_, rfl, by decide, by decide⟩, ⟨_, rfl, by decide⟩, ⟨_, rfl, by decide⟩,
    ⟨_, rfl, by decide, by decide, by decide, by decide, by decide⟩⟩

theorem witness_EachElementHasItsWriters_pulses_and_model_fields :
    (∃ t, exec .rxStart scanning = .next t ∧ t.idle ≠ scanning.idle) ∧
    (∃ t, exec .invoke State.reset = .next t ∧ t.run ≠ State.reset.run) ∧
    (∃ t, exec .wake (waiting 100 111 10) = .next t ∧ t.reconnectReq ≠ (waiting 100 111 10).reconnectReq) ∧
    (∃ t, exec (.rxSkip 0x41) { scanning with logEn := true } = .next t ∧ t.diag ≠ scanning.diag) ∧
    (∃ t, exec (.cfgrd 2) scanning = .next t ∧ t.lastRead ≠ scanning.lastRead) ∧
    ∃ t, exec .reset { scanning with done := true, reconnectReq := true, diag := 1 } = .next t ∧
      t.done ≠ true ∧ t.reconnectReq ≠ true ∧ t.diag ≠ 1 ∧ t.freeIndex ≠ scanning.freeIndex :=
  ⟨⟨_, rfl, by decide⟩, ⟨_, rfl, by decide⟩, ⟨_, rfl, by decide⟩, ⟨_, rfl, by decide⟩, ⟨_, rfl, by decide⟩,
    ⟨_, rfl, by decide, by decide, by decide, by decide⟩⟩

theorem witness_ResetStateValues : ({ rst := true, invoke := true, tick := true } : Ports).rst = true := by decide

theorem witness_OutputsAfterReset : ∃ t, exec .reset scanning = .next t := ⟨_, rfl⟩

theorem witness_RxHandshake :
    (State.reset.outputs 0).rxReady = false ∧ ({ scanning with reconnectReq := true }.outputs 0).rxReady = false := by
  decide

theorem witness_CycleAppliesEventsInOrder :
    ({ rst := true } : Ports).rst = true ∧ ({ tick := true, cfgWe := true } : Ports).rst = false := by decide

theorem witness_ByteInTickCycleRescuesFrame :
    ({ tick := true, rxValid := true, rxData := 0x37 } : Ports).rst = false ∧
    ({ tick := true, rxValid := true, rxData := 0x37 } : Ports).tick = true ∧
    ({ tick := true, rxValid := true, rxData := 0x37 } : Ports).rxValid = true ∧
    (waiting 100 110 0).rxReady = true := by decide

theorem witness_PulsesOfAPortCycle :
    (∃ t, portCycle { rxValid := true, rxData := 0x03 } (collecting refPayload 12) = .next t ∧ t.done = true) ∧
    (∃ t, portCycle { tick := true } (waiting 100 110 10) = .next t ∧ t.reconnectReq = true) ∧
    (∃ t, portCycle { rxValid := true, rxData := 0x41 } { scanning with logEn := true, diag := 0b100000 } = .next t ∧
      t.diag = 0b000010) ∧
    (∃ t, portCycle { tick := true } { waiting 100 110 10 with logEn := true } = .next t ∧ t.diag = 0b100000) ∧
    ∃ t, portCycle { tick := true } { waiting 100 109 10 with logEn := true, diag := 0b000010 } = .next t ∧ t.diag = 0 :=
  ⟨⟨_, rfl, by decide⟩, ⟨_, rfl, by decide⟩, ⟨_, rfl, by decide⟩, ⟨_, rfl, by decide⟩, ⟨_, rfl, by decide⟩⟩

theorem witness_ElapsedStaysBounded :
    (waiting 0 65535 65535).ElapsedBounded ∧ ∃ t, portCycle {} (waiting 0 65535 65535) = .next t ∧ t.run = true ∧
      t.idle = false :=
  ⟨fun _ _ => by decide, _, rfl, by decide, by decide⟩

theorem witness_StepRunsTheDecodedEvent :
    (scanning.withFetchWord 24 0x000002).inputs = [.word 0x000002#24] ∧
    ({ scanning with inputs := [Trace.unit] }).inputs = [.cycle { tick := true, wake := true }] ∧
    ({ scanning with inputs := [.ports { tick := true }] }).inputs = [.ports { tick := true }] ∧
    scanning.inputs = [] := by decide

theorem witness_FetchWordRunsEncodedEvent : (Instr.rxData 0x41).wf = true := by decide

theorem witness_EveryStepKeepsInvariants :
    ({ collecting refPayload 12 with inputs := [.word 0x000103#24] }).Inv ∧
    ∃ t, step { collecting refPayload 12 with inputs := [.word 0x000103#24] } = .next t ∧ t.tagv = true :=
  ⟨⟨by decide, by decide, by decide, by decide, by decide⟩, _, rfl, by decide⟩

theorem witness_EveryStepKeepsPulseDiscipline :
    ({ waiting 100 110 10 with inputs := [.ports { tick := true }] }).PulseInv ∧
    ∃ t, step { waiting 100 110 10 with inputs := [.ports { tick := true }] } = .next t ∧ t.reconnectReq = true :=
  ⟨⟨.inl rfl, by decide, by decide⟩, _, rfl, by decide⟩

theorem witness_LogFlagNeverAffectsControl :
    State.SameButLog { scanning with inputs := [.word 0x000041#24] }
      { scanning with inputs := [.word 0x000041#24], logEn := true } ∧
    scanning.logEn = false ∧ ∃ t, exec (.rxSkip 0x41) scanning = .next t :=
  ⟨rfl, rfl, _, rfl⟩

theorem witness_UnusedSlotsAreUnobservable :
    State.SameFrame (collecting refPayload 5) { collecting refPayload 5 with buf := refPayload.set 5 0x47 } :=
  ⟨rfl, by decide⟩

theorem witness_StalledFrameIsClearedOnce :
    let s : State := { waiting 0 0 1 with inputs := [.ports { tick := true }, .ports {}, .ports { tick := true }] }
    let ps : List Ports := [{ tick := true }, {}, { tick := true }]
    s.run = true ∧ s.idle = false ∧ s.ElapsedBounded ∧
    (∀ p ∈ ps, p.rst = false ∧ p.rxValid = false ∧ (p.cfgWe = true → p.cfgAddr ≠ 0#2)) ∧
    (ps.filter fun p => p.tick).length = s.stallWindow.toNat + 1 ∧ s.inputs = ps.map Input.ports ++ [] :=
  ⟨rfl, rfl, fun _ _ => by decide, by decide, by decide, by decide⟩

/-- The ten data characters "001234ABCD". -/
def refData : Vector Byte 10 := #v[0x30, 0x30, 0x31, 0x32, 0x33, 0x34, 0x41, 0x42, 0x43, 0x44]

/-- Their values. -/
def refDigits : Fin 10 → Nibble := ![0, 0, 1, 2, 3, 4, 10, 11, 12, 13]

theorem witness_GoodFrameEmitsItsTag :
    scanning.run = true ∧ scanning.idle = true ∧ (∀ b ∈ [0x41#8, 0x03#8, 0xFF#8], b ≠ 0x02#8) ∧
    (∀ k : Fin 10, hexval refData[k.val] = some (refDigits k)) ∧
    Trace.goodFrame refData = some (Trace.frame refPayload.toList) ∧
    ({ scanning with inputs := Trace.str [0x41, 0x03, 0xFF] ++ Trace.frame refPayload.toList ++ [] }).inputs =
      Trace.str [0x41, 0x03, 0xFF] ++ Trace.frame refPayload.toList ++ [] := by decide

theorem witness_PairFoldAndTagHaveNoValueOffHex :
    (hexval nonHexPayload[2] = none ∧ pair nonHexPayload 1 = none ∧ xorfold nonHexPayload = none ∧
      tagValue nonHexPayload = none) ∧
    (xorfold (refPayload.set 10 0x47) = some 0x40 ∧ tagValue (refPayload.set 0 0x47) = some 0x1234ABCD) := by decide

theorem witness_WrongLengthFrameIsDiscarded :
    let s : State := { scanning with inputs := Trace.frame (List.replicate 13 0x30) }
    s.run = true ∧ s.idle = true ∧ (∀ b ∈ List.replicate 13 0x30#8, b ≤ 0x7F#8 ∧ b ≠ 0x03#8) ∧
    (List.replicate 13 0x30#8).length ≠ 12 ∧ s.inputs = Trace.frame (List.replicate 13 0x30#8) ++ [] := by decide

end Sys2Proof.Tests
end

/-! How each kind of input reaches the step (logs 1 to 3). -/

namespace Sys2Proof.Machine

/-- An event word is a clock cycle of its own: the pulses are cleared, then its one event happens (log 2). -/
theorem step_word {s : State} {w : EventWord} {xs : List Input} (h : s.inputs = .word w :: xs) :
    step s = exec (decode w) (s.withInputs xs).clearPulses :=
  step_cons s (.word w) xs h

theorem step_cycle {s : State} {c : CycleEvents} {xs : List Input} (h : s.inputs = .cycle c :: xs) :
    step s = runCycle c (s.withInputs xs) :=
  step_cons s (.cycle c) xs h

theorem step_ports {s : State} {p : Ports} {xs : List Input} (h : s.inputs = .ports p :: xs) :
    step s = portCycle p (s.withInputs xs) :=
  step_cons s (.ports p) xs h

/-- Settles O45: one equation of `step` for each kind of input, and `step_nil` for no input. -/
theorem stepRunsTheDecodedEvent : Obligations.StepRunsTheDecodedEvent :=
  ⟨fun _ _ _ hword => step_word hword, fun _ _ _ hcycle => step_cycle hcycle,
    fun _ _ _ hports => step_ports hports, step_nil⟩

end Sys2Proof.Machine

/-! STATUS, bit by bit (10_state.md R38), and the handshake of the byte port (R33). -/

namespace Sys2Proof.Machine

theorem getLsbD_ofBool (b : Bool) (i : Nat) : (BitVec.ofBool b).getLsbD i = (decide (i = 0) && b) := by
  cases b <;> simp [BitVec.getLsbD_one]

/-- The one reading rule of STATUS: which element stands at which bit. -/
theorem State.status_getLsbD (s : State) (i : Nat) :
    s.status.getLsbD i =
      if i = 0 then s.run else if i = 1 then s.idle else if i < 6 then s.len.getLsbD (i - 2)
      else if i = 6 then s.tagv else false := by
  simp only [State.status, BitVec.getLsbD_setWidth, BitVec.getLsbD_append, getLsbD_ofBool]
  grind

theorem State.readCfg_status (s : State) : s.readCfg 2#2 = s.status := rfl

/-- Settles O39: each clause reads its bits off `State.status_getLsbD`. -/
theorem statusRegisterLayout : Obligations.StatusRegisterLayout := by
  intro s
  simp only [State.readCfg_status]
  refine ⟨?run, ?idle, ?len, ?tagv, ?rest, fun _ => rfl⟩
  case run => exact s.status_getLsbD 0
  case idle => exact s.status_getLsbD 1
  case len =>
    refine BitVec.eq_of_getLsbD_eq fun i hi => ?_
    have hlo : ¬ 2 + i = 0 ∧ ¬ 2 + i = 1 ∧ 2 + i < 6 := by omega
    simp [State.status_getLsbD, hlo, hi]
  case tagv => exact s.status_getLsbD 6
  case rest =>
    refine BitVec.eq_of_getLsbD_eq fun i hi => ?_
    have hhi : ¬ 7 + i = 0 ∧ ¬ 7 + i = 1 ∧ ¬ 7 + i < 6 ∧ ¬ 7 + i = 6 := by omega
    simp [State.status_getLsbD, hhi]

theorem State.run_of_rxReady {s : State} (h : s.rxReady = true) : s.run = true := by
  simp_all [State.rxReady]

/-- What the ports give the decode loop in a cycle (20_memory.md R64 step 4), one case per answer. -/
theorem portLoop_cases (p : Ports) (s : State) :
    (p.invoke = true ∧ s.run = false ∧ s.rxReady = false ∧ portLoop p s = some .invoke) ∨
    (s.rxReady = true ∧ p.rxValid = true ∧ portLoop p s = some (.rx p.rxData)) ∨
    (s.rxReady = true ∧ p.rxValid = false ∧ portLoop p s = some .nodata) ∨
    (s.rxReady = false ∧ portLoop p s = none) := by
  cases hready : s.rxReady with
  | true =>
    have hrun := State.run_of_rxReady hready
    cases hvalid : p.rxValid <;> simp [portLoop, hready, hrun, hvalid]
  | false =>
    cases hinvoke : p.invoke <;> cases hrun : s.run <;> simp [portLoop, hready, hinvoke, hrun]

/-- `INVOKE` never stands in the way of a byte: a block that is ready is running. -/
theorem portLoop_eq_rx_iff (p : Ports) (s : State) (b : Byte) :
    portLoop p s = some (.rx b) ↔ s.rxReady = true ∧ p.rxValid = true ∧ p.rxData = b := by
  rcases portLoop_cases p s with ⟨-, -, hready, hloop⟩ | ⟨hready, hvalid, hloop⟩ | ⟨hready, hvalid, hloop⟩ |
    ⟨hready, hloop⟩ <;> simp [*]

theorem portLoop_eq_nodata_iff (p : Ports) (s : State) :
    portLoop p s = some .nodata ↔ s.rxReady = true ∧ p.rxValid = false := by
  rcases portLoop_cases p s with ⟨-, -, hready, hloop⟩ | ⟨hready, hvalid, hloop⟩ | ⟨hready, hvalid, hloop⟩ |
    ⟨hready, hloop⟩ <;> simp [*]

/-- Settles O40: `portLoop_eq_rx_iff` and `portLoop_eq_nodata_iff`. -/
theorem rxHandshake : Obligations.RxHandshake := by
  intro p s a
  have hready : (s.outputs a).rxReady = s.rxReady := rfl
  rw [hready]
  refine ⟨rfl, ?taken, portLoop_eq_nodata_iff p s, fun hoff => ⟨?noNodata, fun b => ?noByte⟩⟩
  case taken => simp [portLoop_eq_rx_iff, and_comm]
  case noNodata => simp [portLoop_eq_nodata_iff, hoff]
  case noByte => simp [portLoop_eq_rx_iff, hoff]

end Sys2Proof.Machine

/-! States that step alike. A relation that every event respects and that the parts of a cycle can not tell apart is
respected by `step`; R37 and R23 are this fact for two relations. -/

namespace Sys2Proof.Machine

/-- Two answers are next states that stand in `R`. -/
def Answer.Alike (R : State → State → Prop) (o p : Answer) : Prop :=
  ∃ s t : State, o = .next s ∧ p = .next t ∧ R s t

variable {R : State → State → Prop} {s t : State}

theorem Answer.alike_next (h : R s t) : Answer.Alike R (.next s) (.next t) := ⟨s, t, rfl, rfl, h⟩

theorem Answer.Alike.andThen {o p : Answer} {f g : State → Answer} (h : Answer.Alike R o p)
    (hfg : ∀ s t, R s t → Answer.Alike R (f s) (g t)) : Answer.Alike R (o.andThen f) (p.andThen g) := by
  obtain ⟨s, t, rfl, rfl, hst⟩ := h
  exact hfg s t hst

/-- Related states have the same inputs to come and the same control bits, and clearing the pulses, taking an input off
the list and every event keep the relation. -/
structure Simulation (R : State → State → Prop) : Prop where
  inputs_eq : ∀ {s t}, R s t → t.inputs = s.inputs
  run_eq : ∀ {s t}, R s t → t.run = s.run
  idle_eq : ∀ {s t}, R s t → t.idle = s.idle
  reconnectReq_eq : ∀ {s t}, R s t → t.reconnectReq = s.reconnectReq
  withInputs : ∀ {s t} (xs : List Input), R s t → R (s.withInputs xs) (t.withInputs xs)
  clearPulses : ∀ {s t}, R s t → R s.clearPulses t.clearPulses
  exec : ∀ {s t} (i : Instr), R s t → Answer.Alike R (Machine.exec i s) (Machine.exec i t)

namespace Simulation

theorem runEvents (hR : Simulation R) (is : List Instr) (h : R s t) :
    Answer.Alike R (Machine.runEvents is s) (Machine.runEvents is t) := by
  induction is generalizing s t with
  | nil => exact Answer.alike_next h
  | cons i is ih => exact (hR.exec i h).andThen fun _ _ => ih

/-- Related states produce the same events of a trace line: only `idle` is read. -/
theorem instrs_eq (hR : Simulation R) (c : CycleEvents) (h : R s t) : c.instrs t = c.instrs s := by
  have hloop : ∀ e : LoopEvent, e.instr t = e.instr s := by
    intro e
    cases e <;> simp [LoopEvent.instr, hR.idle_eq h]
  simp only [CycleEvents.instrs, hloop]

/-- Related states draw the same events from the ports: only `run` and `reconnect_req` are read. -/
theorem portEvents_eq (hR : Simulation R) (p : Ports) (h : R s t) : portEvents p t = portEvents p s := by
  have hloop : portLoop p t = portLoop p s := by
    unfold portLoop State.rxReady
    rw [hR.run_eq h, hR.reconnectReq_eq h]
  unfold portEvents
  rw [hloop]

theorem runCycle (hR : Simulation R) (c : CycleEvents) (h : R s t) :
    Answer.Alike R (Machine.runCycle c s) (Machine.runCycle c t) := by
  unfold Machine.runCycle
  rw [hR.instrs_eq c h]
  exact hR.runEvents _ (hR.clearPulses h)

theorem portCycle (hR : Simulation R) (p : Ports) (h : R s t) :
    Answer.Alike R (Machine.portCycle p s) (Machine.portCycle p t) := by
  cases hrst : p.rst with
  | true => simpa only [portCycle_rst _ _ hrst] using hR.exec .reset h
  | false => simpa only [portCycle_events _ _ hrst, hR.portEvents_eq p h] using hR.runCycle _ h

theorem input_run (hR : Simulation R) (x : Input) (h : R s t) : Answer.Alike R (x.run s) (x.run t) := by
  cases x with
  | word w => exact hR.exec _ (hR.clearPulses h)
  | cycle c => exact hR.runCycle c h
  | ports p => exact hR.portCycle p h

theorem step (hR : Simulation R) (h : R s t) : Answer.Alike R (Machine.step s) (Machine.step t) := by
  cases hin : s.inputs with
  | nil =>
    rw [step_nil s hin, step_nil t (hR.inputs_eq h ▸ hin)]
    exact Answer.alike_next h
  | cons x xs =>
    rw [step_cons s x xs hin, step_cons t x xs (hR.inputs_eq h ▸ hin)]
    exact hR.input_run x (hR.withInputs xs h)

end Simulation

/-- A byte event respects a relation that keeps the control bits, if its effect does. -/
theorem takeByte_alike {f : State → State} (mode : Bool) (h : R s t) (hrun : t.run = s.run) (hidle : t.idle = s.idle)
    (heffect : R (f s.stamp) (f t.stamp)) : Answer.Alike R (takeByte mode f s) (takeByte mode f t) := by
  unfold takeByte
  rw [hrun, hidle]
  refine Answer.alike_next ?_
  split
  · exact heffect
  · exact h

/-! ### LOG_EN (10_state.md R37) -/

/-- `s` with other values in the three fields that `State.SameButLog` leaves free. -/
def State.withLog (s : State) (l : Bool) (d : DiagBits) (r : Option CfgWord) : State :=
  { s with logEn := l, diag := d, lastRead := r }

theorem State.sameButLog_withLog (s : State) (l : Bool) (d : DiagBits) (r : Option CfgWord) :
    s.SameButLog (s.withLog l d r) := rfl

theorem State.sameButLog_iff : s.SameButLog t ↔ ∃ l d r, t = s.withLog l d r :=
  ⟨fun h => ⟨_, _, _, h⟩, fun ⟨l, d, r, h⟩ => h ▸ s.sameButLog_withLog l d r⟩

/-- An operation respects `SameButLog` if what it does to `s.withLog l d r` is what it does to `s`, up to the three
fields. -/
theorem State.SameButLog.map {f : State → State} (hf : ∀ l d r, (f s).SameButLog (f (s.withLog l d r)))
    (h : s.SameButLog t) : (f s).SameButLog (f t) := by
  obtain ⟨l, d, r, rfl⟩ := State.sameButLog_iff.mp h
  exact hf l d r

theorem raiseCause_sameButLog (k : Cause) (h : s.SameButLog t) : (raiseCause k s).SameButLog (raiseCause k t) :=
  h.map fun l d r => by cases k <;> rfl

theorem emit_sameButLog (v : TagBits) (h : s.SameButLog t) : (emit v s).SameButLog (emit v t) :=
  h.map fun _ _ _ => rfl

theorem stamp_sameButLog (h : s.SameButLog t) : s.stamp.SameButLog t.stamp :=
  h.map fun _ _ _ => rfl

theorem appendChar_sameButLog (b : Byte) (h : s.SameButLog t) : (appendChar b s).SameButLog (appendChar b t) :=
  h.map fun l d r => by
    have hlen : (s.withLog l d r).len = s.len := rfl
    unfold appendChar
    rw [hlen]
    split <;> rfl

theorem closeFrame_sameButLog (h : s.SameButLog t) : (closeFrame s).SameButLog (closeFrame t) := by
  obtain ⟨l, d, r, rfl⟩ := State.sameButLog_iff.mp h
  have hlen : (s.withLog l d r).len = s.len := rfl
  have hframe : (s.withLog l d r).readFrame = s.readFrame := rfl
  unfold closeFrame
  rw [hlen, hframe]
  split
  · split
    · exact emit_sameButLog _ h
    · exact raiseCause_sameButLog _ h
  · exact raiseCause_sameButLog _ h

/-- No event tells apart two states that differ in the logging flag. -/
theorem exec_sameButLog (i : Instr) (h : s.SameButLog t) : Answer.Alike State.SameButLog (exec i s) (exec i t) := by
  have hstamp := stamp_sameButLog h
  obtain ⟨l, d, r, rfl⟩ := State.sameButLog_iff.mp h
  cases i with
  | reset => exact Answer.alike_next rfl
  | rxStart => exact takeByte_alike _ h rfl rfl rfl
  | rxSkip b => exact takeByte_alike _ h rfl rfl (raiseCause_sameButLog _ hstamp)
  | rxEnd => exact takeByte_alike _ h rfl rfl (closeFrame_sameButLog hstamp)
  | rxNonascii b => exact takeByte_alike _ h rfl rfl (raiseCause_sameButLog _ hstamp)
  | rxData b => exact takeByte_alike _ h rfl rfl (appendChar_sameButLog b hstamp)
  | nodata => exact Answer.alike_next (raiseCause_sameButLog _ h)
  | tick => exact Answer.alike_next rfl
  | invoke =>
    refine Answer.alike_next ?_
    have hrun : (s.withLog l d r).run = s.run := rfl
    rw [hrun]
    split <;> rfl
  | cfgwr a w => refine Answer.alike_next ?_; split_ifs <;> rfl
  | cfgrd a => exact Answer.alike_next rfl
  | wake =>
    refine Answer.alike_next ?_
    have hstall : (s.withLog l d r).stall = s.stall := rfl
    rw [hstall]
    split
    · exact raiseCause_sameButLog _ h
    · exact h

theorem simulation_sameButLog : Simulation State.SameButLog where
  inputs_eq h := by obtain ⟨_, _, _, rfl⟩ := State.sameButLog_iff.mp h; rfl
  run_eq h := by obtain ⟨_, _, _, rfl⟩ := State.sameButLog_iff.mp h; rfl
  idle_eq h := by obtain ⟨_, _, _, rfl⟩ := State.sameButLog_iff.mp h; rfl
  reconnectReq_eq h := by obtain ⟨_, _, _, rfl⟩ := State.sameButLog_iff.mp h; rfl
  withInputs xs h := h.map (f := (State.withInputs · xs)) fun _ _ _ => rfl
  clearPulses h := h.map (f := State.clearPulses) fun _ _ _ => rfl
  exec := exec_sameButLog

/-! With LOG_EN = 0 no cause is reported. -/

theorem raiseCause_diag_of_logOff (k : Cause) (h : s.logEn = false) : (raiseCause k s).diag = s.diag := by
  by_cases hk : k = .transportTimeout
  · rw [hk, raiseCause_transportTimeout]
  · simp [raiseCause_diag k s hk, h]

theorem closeFrame_diag_of_logOff (h : s.logEn = false) : (closeFrame s).diag = s.diag := by
  rcases closeFrame_cases s with ⟨-, e⟩ | ⟨-, -, e⟩ | ⟨v, -, -, e⟩
  · rw [e, raiseCause_diag_of_logOff _ h]
  · rw [e, raiseCause_diag_of_logOff _ h]
  · rw [e, emit_diag]

theorem takeByte_diag {mode : Bool} {f : State → State} (hf : (f s.stamp).diag = s.diag)
    (h : takeByte mode f s = .next t) : t.diag = s.diag := by
  rcases takeByte_cases _ _ _ _ h with ⟨-, -, rfl⟩ | ⟨-, rfl⟩
  · exact hf
  · rfl

theorem exec_diag_of_logOff (i : Instr) (hlog : s.logEn = false) (h : exec i s = .next t) :
    t.diag = s.diag ∨ (i = .reset ∧ t.diag = 0#6) := by
  cases i with
  | reset => exact .inr ⟨rfl, by rw [← Host.Outcome.next.inj h]; rfl⟩
  | rxStart => exact .inl (takeByte_diag rfl h)
  | rxSkip b => exact .inl (takeByte_diag (raiseCause_diag_of_logOff (s := s.stamp) _ hlog) h)
  | rxEnd => exact .inl (takeByte_diag (closeFrame_diag_of_logOff (s := s.stamp) hlog) h)
  | rxNonascii b => exact .inl (takeByte_diag (raiseCause_diag_of_logOff (s := s.stamp) _ hlog) h)
  | rxData b => exact .inl (takeByte_diag (appendChar_diag b s.stamp) h)
  | nodata => exact .inl (by rw [← Host.Outcome.next.inj h]; rfl)
  | tick => exact .inl (by rw [← Host.Outcome.next.inj h])
  | invoke => exact .inl (by rw [← Host.Outcome.next.inj h]; split <;> rfl)
  | cfgwr a d => exact .inl (by rw [← Host.Outcome.next.inj h]; split_ifs <;> rfl)
  | cfgrd a => exact .inl (by rw [← Host.Outcome.next.inj h])
  | wake =>
    refine .inl ?_
    rw [← Host.Outcome.next.inj h]
    split
    · exact raiseCause_diag_of_logOff _ hlog
    · rfl

/-- CTRL shows LOG_EN in bit 0. -/
theorem State.ctrl_getLsbD (s : State) (i : Nat) : s.ctrl.getLsbD i = (decide (i = 0) && s.logEn) := by
  simp only [State.ctrl, BitVec.getLsbD_setWidth, getLsbD_ofBool]
  grind

theorem State.readCfg_ctrl (s : State) : s.readCfg 1#2 = s.ctrl := rfl

/-- Settles O51: `SameButLog` is a simulation, and `exec_diag_of_logOff`. -/
theorem logFlagNeverAffectsControl : Obligations.LogFlagNeverAffectsControl := by
  refine ⟨fun s d => ⟨?bit, ?rest, rfl⟩, rfl, fun s t h => simulation_sameButLog.step h,
    fun i s t hlog h => exec_diag_of_logOff i hlog h⟩
  case bit => simpa [State.readCfg_ctrl] using s.ctrl_getLsbD 0
  case rest =>
    refine BitVec.eq_of_getLsbD_eq fun i hi => ?_
    simp [State.readCfg_ctrl, State.ctrl_getLsbD]

/-! ### Slots at or above len (10_state.md R23) -/

/-- `s` with another frame buffer. -/
def State.withBuf (s : State) (b : Payload) : State := { s with buf := b }

/-- Two buffers agree on the slots below `n`. -/
def SlotsAgree (n : Nat) (b b' : Payload) : Prop :=
  ∀ i : Fin 12, i.val < n → b'[i] = b[i]

theorem State.sameFrame_iff : s.SameFrame t ↔ ∃ b, t = s.withBuf b ∧ SlotsAgree s.len.toNat s.buf b := by
  refine ⟨fun ⟨ht, hslots⟩ => ⟨t.buf, ht, hslots⟩, ?_⟩
  rintro ⟨b, rfl, hslots⟩
  exact ⟨rfl, hslots⟩

theorem SlotsAgree.zero (b b' : Payload) : SlotsAgree 0 b b' := fun _ h => absurd h (Nat.not_lt_zero _)

/-- A full frame has no unused slot. -/
theorem SlotsAgree.eq {n : Nat} {b b' : Payload} (h : SlotsAgree n b b') (hn : 12 ≤ n) : b' = b :=
  Vector.ext fun i hi => h ⟨i, hi⟩ (by omega)

/-- Writing the first unused slot of both buffers makes it agree too. -/
theorem SlotsAgree.setIfInBounds {n : Nat} {b b' : Payload} (h : SlotsAgree n b b') (x : Byte) :
    SlotsAgree (n + 1) (b.setIfInBounds n x) (b'.setIfInBounds n x) := by
  intro i hi
  by_cases hin : n = i.val
  · simp [hin]
  · have hlt : i.val < n := by omega
    simpa [hin] using h i hlt

/-- An operation that neither reads nor writes the buffer respects `SameFrame`, if it keeps `len` or empties the
frame. -/
theorem State.SameFrame.map {f : State → State} (hf : ∀ b, f (s.withBuf b) = (f s).withBuf b)
    (hbuf : (f s).buf = s.buf) (hlen : (f s).len = s.len ∨ (f s).len = 0#4) (h : s.SameFrame t) :
    (f s).SameFrame (f t) := by
  obtain ⟨b, rfl, hslots⟩ := State.sameFrame_iff.mp h
  refine State.sameFrame_iff.mpr ⟨b, hf b, ?_⟩
  rcases hlen with e | e
  · rwa [e, hbuf]
  · rw [e]
    exact SlotsAgree.zero _ _

theorem raiseCause_len (k : Cause) (s : State) : (raiseCause k s).len = s.len ∨ (raiseCause k s).len = 0#4 := by
  cases k <;> simp [raiseCause]

theorem raiseCause_sameFrame (k : Cause) (h : s.SameFrame t) : (raiseCause k s).SameFrame (raiseCause k t) :=
  h.map (fun b => by cases k <;> rfl) (raiseCause_buf k s) (raiseCause_len k s)

theorem stamp_sameFrame (h : s.SameFrame t) : s.stamp.SameFrame t.stamp :=
  h.map (fun _ => rfl) rfl (.inl rfl)

theorem beginFrame_sameFrame (h : s.SameFrame t) : s.beginFrame.SameFrame t.beginFrame :=
  h.map (fun _ => rfl) rfl (.inr rfl)

theorem appendChar_sameFrame (c : Byte) (h : s.SameFrame t) : (appendChar c s).SameFrame (appendChar c t) := by
  obtain ⟨b, rfl, hslots⟩ := State.sameFrame_iff.mp h
  have hlen : (s.withBuf b).len = s.len := rfl
  by_cases hroom : s.len < Config.payloadLen
  · have hnext : (s.len + 1#4).toNat = s.len.toNat + 1 := by
      simp only [Config.payloadLen] at hroom
      bv_omega
    refine State.sameFrame_iff.mpr ⟨b.setIfInBounds s.len.toNat c, ?_, ?_⟩
    · simp only [appendChar, hlen, hroom, if_true]
      rfl
    · rw [appendChar_len, appendChar_buf, if_pos hroom, if_pos hroom, hnext]
      exact hslots.setIfInBounds c
  · have hfull : 12 ≤ s.len.toNat := by
      simp only [Config.payloadLen] at hroom
      bv_omega
    refine State.sameFrame_iff.mpr ⟨b, ?_, ?_⟩
    · simp only [appendChar, hlen, hroom, if_false]
      rfl
    · rw [hslots.eq hfull, appendChar_buf, if_neg hroom]
      exact fun _ _ => rfl

theorem State.SameFrame.refl (s : State) : s.SameFrame s := ⟨rfl, fun _ _ => rfl⟩

/-- The end marker looks at the buffer only when all twelve slots are in use. -/
theorem closeFrame_sameFrame (h : s.SameFrame t) : (closeFrame s).SameFrame (closeFrame t) := by
  obtain ⟨b, rfl, hslots⟩ := State.sameFrame_iff.mp h
  by_cases hlen : s.len = Config.payloadLen
  · have hb : b = s.buf := hslots.eq (by simp [hlen, Config.payloadLen])
    rw [hb]
    exact State.SameFrame.refl _
  · have hlen' : (s.withBuf b).len ≠ Config.payloadLen := hlen
    simp only [closeFrame, hlen, hlen', if_false]
    exact raiseCause_sameFrame _ h

theorem execInvoke_sameFrame (h : s.SameFrame t) : Answer.Alike State.SameFrame (execInvoke s) (execInvoke t) := by
  have hrun : t.run = s.run := by rw [h.1]
  unfold execInvoke
  rw [hrun]
  refine Answer.alike_next ?_
  split
  · exact h
  · exact h.map (f := fun s => { s.toIdle.stamp with run := true, tagv := false }) (fun _ => rfl) rfl (.inr rfl)

theorem execWake_sameFrame (h : s.SameFrame t) : Answer.Alike State.SameFrame (execWake s) (execWake t) := by
  have hstall : t.stall = s.stall := by rw [h.1]; rfl
  unfold execWake
  rw [hstall]
  refine Answer.alike_next ?_
  split
  · exact raiseCause_sameFrame _ h
  · exact h

theorem execCfgwr_sameFrame (a : CfgAddr) (d : CfgWord) (h : s.SameFrame t) :
    Answer.Alike State.SameFrame (execCfgwr a d s) (execCfgwr a d t) := by
  refine Answer.alike_next ?_
  split_ifs
  · exact h.map (f := fun s => { s with stallWindow := d }) (fun _ => rfl) rfl (.inl rfl)
  · exact h.map (f := fun s => { s with logEn := d.getLsbD 0 }) (fun _ => rfl) rfl (.inl rfl)
  · exact h

/-- No event tells apart two states that differ in unused slots. `RESET` fills the buffers of both with the same free
values. -/
theorem exec_sameFrame (i : Instr) (h : s.SameFrame t) : Answer.Alike State.SameFrame (exec i s) (exec i t) := by
  have hstamp := stamp_sameFrame h
  have hrun : t.run = s.run := by rw [h.1]
  have hidle : t.idle = s.idle := by rw [h.1]
  cases i with
  | reset =>
    have hsame : exec .reset t = exec .reset s := by rw [h.1]; rfl
    rw [hsame]
    exact Answer.alike_next (State.SameFrame.refl _)
  | rxStart => exact takeByte_alike _ h hrun hidle (beginFrame_sameFrame hstamp)
  | rxSkip b => exact takeByte_alike _ h hrun hidle (raiseCause_sameFrame _ hstamp)
  | rxEnd => exact takeByte_alike _ h hrun hidle (closeFrame_sameFrame hstamp)
  | rxNonascii b => exact takeByte_alike _ h hrun hidle (raiseCause_sameFrame _ hstamp)
  | rxData b => exact takeByte_alike _ h hrun hidle (appendChar_sameFrame b hstamp)
  | nodata => exact Answer.alike_next (raiseCause_sameFrame _ h)
  | tick =>
    exact Answer.alike_next
      (h.map (f := fun s => { s with now := s.now + 1#32 }) (fun _ => rfl) rfl (.inl rfl))
  | invoke => exact execInvoke_sameFrame h
  | cfgwr a d => exact execCfgwr_sameFrame a d h
  | cfgrd a =>
    exact Answer.alike_next
      (h.map (f := fun s => { s with lastRead := some (s.readCfg a) }) (fun _ => rfl) rfl (.inl rfl))
  | wake => exact execWake_sameFrame h

theorem simulation_sameFrame : Simulation State.SameFrame where
  inputs_eq h := by rw [h.1]
  run_eq h := by rw [h.1]
  idle_eq h := by rw [h.1]
  reconnectReq_eq h := by rw [h.1]
  withInputs xs h := h.map (f := (State.withInputs · xs)) (fun _ => rfl) rfl (.inl rfl)
  clearPulses h := h.map (f := State.clearPulses) (fun _ => rfl) rfl (.inl rfl)
  exec := exec_sameFrame

/-- No output port shows a slot of the buffer. -/
theorem State.SameFrame.outputs_eq (h : s.SameFrame t) (a : CfgAddr) : t.outputs a = s.outputs a := by
  rw [h.1]
  rfl

/-- Settles O52: `SameFrame` is a simulation, and the discard path writes no slot (`raiseCause_buf`). -/
theorem unusedSlotsAreUnobservable : Obligations.UnusedSlotsAreUnobservable :=
  ⟨fun _ _ h => ⟨h.outputs_eq, simulation_sameFrame.step h⟩, raiseCause_buf⟩

end Sys2Proof.Machine

/-! One cycle of the ports in three parts: what `tick` does before the decode loop, what the decode loop does, and the
watchdog and the host's write after it (20_memory.md R64). -/

namespace Sys2Proof.Machine

/-- The state the decode loop of a cycle meets: pulses cleared and, under `tick`, `now` advanced. -/
def State.cycleStart (s : State) (tick : Bool) : State :=
  if tick then { s.clearPulses with now := s.now + 1#32 } else s.clearPulses

/-- The watchdog's part of a cycle: its check under `tick`. -/
def State.watch (s : State) (tick : Bool) : State :=
  if tick && s.stall then raiseCause .stallTimeout s else s

/-- The host's part of a cycle: its write under `cfg_we`. -/
def State.hostWrite (s : State) (p : Ports) : State :=
  if p.cfgWe then
    if p.cfgAddr = 0#2 then { s with stallWindow := p.cfgWdata }
    else if p.cfgAddr = 1#2 then { s with logEn := p.cfgWdata.getLsbD 0 }
    else s
  else s

variable {s t u : State} {p : Ports}

/-! `cycleStart` changes the pulses and `now` only. -/

@[simp] theorem State.cycleStart_buf (s : State) (k : Bool) : (s.cycleStart k).buf = s.buf := by cases k <;> rfl
@[simp] theorem State.cycleStart_len (s : State) (k : Bool) : (s.cycleStart k).len = s.len := by cases k <;> rfl
@[simp] theorem State.cycleStart_idle (s : State) (k : Bool) : (s.cycleStart k).idle = s.idle := by cases k <;> rfl
@[simp] theorem State.cycleStart_run (s : State) (k : Bool) : (s.cycleStart k).run = s.run := by cases k <;> rfl
@[simp] theorem State.cycleStart_logEn (s : State) (k : Bool) : (s.cycleStart k).logEn = s.logEn := by
  cases k <;> rfl
@[simp] theorem State.cycleStart_stallWindow (s : State) (k : Bool) :
    (s.cycleStart k).stallWindow = s.stallWindow := by cases k <;> rfl
@[simp] theorem State.cycleStart_inputs (s : State) (k : Bool) : (s.cycleStart k).inputs = s.inputs := by
  cases k <;> rfl
@[simp] theorem State.cycleStart_done (s : State) (k : Bool) : (s.cycleStart k).done = false := by cases k <;> rfl
@[simp] theorem State.cycleStart_reconnectReq (s : State) (k : Bool) : (s.cycleStart k).reconnectReq = false := by
  cases k <;> rfl
@[simp] theorem State.cycleStart_diag (s : State) (k : Bool) : (s.cycleStart k).diag = 0#6 := by cases k <;> rfl

theorem State.cycleStart_elapsed_tick (s : State) : (s.cycleStart true).elapsed = s.elapsed + 1#32 :=
  BitVec.sub_add_comm.symm

/-! `hostWrite` changes the two writable registers only. -/

theorem State.hostWrite_cases (s : State) (p : Ports) :
    s.hostWrite p = s ∨ (p.cfgWe = true ∧ p.cfgAddr = 0#2 ∧ s.hostWrite p = { s with stallWindow := p.cfgWdata }) ∨
      s.hostWrite p = { s with logEn := p.cfgWdata.getLsbD 0 } := by
  unfold State.hostWrite
  split_ifs with hwe h0
  · exact .inr (.inl ⟨hwe, h0, rfl⟩)
  · exact .inr (.inr rfl)
  · exact .inl rfl
  · exact .inl rfl

@[simp] theorem State.hostWrite_len (s : State) (p : Ports) : (s.hostWrite p).len = s.len := by
  rcases s.hostWrite_cases p with e | ⟨-, -, e⟩ | e <;> rw [e]
@[simp] theorem State.hostWrite_idle (s : State) (p : Ports) : (s.hostWrite p).idle = s.idle := by
  rcases s.hostWrite_cases p with e | ⟨-, -, e⟩ | e <;> rw [e]
@[simp] theorem State.hostWrite_run (s : State) (p : Ports) : (s.hostWrite p).run = s.run := by
  rcases s.hostWrite_cases p with e | ⟨-, -, e⟩ | e <;> rw [e]
@[simp] theorem State.hostWrite_inputs (s : State) (p : Ports) : (s.hostWrite p).inputs = s.inputs := by
  rcases s.hostWrite_cases p with e | ⟨-, -, e⟩ | e <;> rw [e]
@[simp] theorem State.hostWrite_elapsed (s : State) (p : Ports) : (s.hostWrite p).elapsed = s.elapsed := by
  rcases s.hostWrite_cases p with e | ⟨-, -, e⟩ | e <;> rw [e] <;> rfl
@[simp] theorem State.hostWrite_done (s : State) (p : Ports) : (s.hostWrite p).done = s.done := by
  rcases s.hostWrite_cases p with e | ⟨-, -, e⟩ | e <;> rw [e]
@[simp] theorem State.hostWrite_reconnectReq (s : State) (p : Ports) :
    (s.hostWrite p).reconnectReq = s.reconnectReq := by
  rcases s.hostWrite_cases p with e | ⟨-, -, e⟩ | e <;> rw [e]
@[simp] theorem State.hostWrite_diag (s : State) (p : Ports) : (s.hostWrite p).diag = s.diag := by
  rcases s.hostWrite_cases p with e | ⟨-, -, e⟩ | e <;> rw [e]

theorem State.hostWrite_stallWindow (s : State) (h : p.cfgWe = true → p.cfgAddr ≠ 0#2) :
    (s.hostWrite p).stallWindow = s.stallWindow := by
  rcases s.hostWrite_cases p with e | ⟨hwe, h0, -⟩ | e
  · rw [e]
  · exact absurd h0 (h hwe)
  · rw [e]

/-! `watch` fires or changes nothing. -/

theorem State.watch_fires (h : s.stall = true) : s.watch true = raiseCause .stallTimeout s := by
  simp [State.watch, h]

theorem State.watch_noTick (s : State) : s.watch false = s := rfl

theorem State.watch_noStall (k : Bool) (h : s.stall = false) : s.watch k = s := by
  simp [State.watch, h]

theorem State.stall_of_idle (h : s.idle = true) : s.stall = false := by simp [State.stall, h]

/-- No stall right after a byte: no time has elapsed. -/
theorem State.stall_of_stamped (h : s.lastRxTime = s.now) : s.stall = false := by
  simp [State.stall, State.elapsed, h]

/-! The cycle is its parts, one after another. -/

/-- What the decode-loop events of a cycle are: at most one. -/
def loopInstrs (p : Ports) (s : State) : List Instr :=
  match portLoop p s with
  | some e => [e.instr s]
  | none => []

theorem runEvents_tick (k : Bool) (s : State) :
    runEvents (if k then [Instr.tick] else []) s.clearPulses = .next (s.cycleStart k) := by
  cases k <;> rfl

theorem runEvents_wake (k : Bool) (s : State) :
    runEvents (if k then [Instr.wake] else []) s = .next (s.watch k) := by
  cases k
  · rfl
  · simp [runEvents_single, exec, execWake, State.watch]

theorem runEvents_cfgwr (p : Ports) (s : State) :
    runEvents (if p.cfgWe then [Instr.cfgwr p.cfgAddr p.cfgWdata] else []) s = .next (s.hostWrite p) := by
  unfold State.hostWrite
  split
  · exact runEvents_single _ _
  · rfl

theorem instrs_portEvents (p : Ports) (s : State) :
    (portEvents p s).instrs s =
      (if p.tick then [Instr.tick] else []) ++ loopInstrs p s ++ (if p.tick then [Instr.wake] else []) ++
        (if p.cfgWe then [Instr.cfgwr p.cfgAddr p.cfgWdata] else []) := by
  simp only [CycleEvents.instrs, portEvents, loopInstrs]
  cases p.cfgWe <;> rfl

/-- A cycle without `rst`, when the decode loop leaves `u`. -/
theorem portCycle_eq_of_loop (hrst : p.rst = false)
    (hloop : runEvents (loopInstrs p s) (s.cycleStart p.tick) = .next u) :
    portCycle p s = .next ((u.watch p.tick).hostWrite p) := by
  rw [portCycle_events p s hrst, runCycle, instrs_portEvents]
  simp only [runEvents_append, runEvents_tick, andThen_next, hloop, runEvents_wake, runEvents_cfgwr]

/-! What a byte does. -/

/-- What a byte `b` taken in state `s` of a running invocation can do, one constructor per outcome of
41_frame_decoder.md R108 to R116. -/
inductive ByteOutcome (b : Byte) (s : State) : State → Prop where
  | begins (hidle : s.idle = true) (hb : b = Config.startMarker) : ByteOutcome b s s.stamp.beginFrame
  | skipped (hidle : s.idle = true) (hb : b ≠ Config.startMarker) :
      ByteOutcome b s (raiseCause .invalidLeadingByte s.stamp)
  | wrongLength (hidle : s.idle = false) (hb : b = Config.endMarker) (hlen : s.len ≠ Config.payloadLen) :
      ByteOutcome b s (raiseCause .lengthMismatch s.stamp)
  | invalid (hidle : s.idle = false) (hb : b = Config.endMarker) (hlen : s.len = Config.payloadLen)
      (hsum : checksumValid s.buf = false) : ByteOutcome b s (raiseCause .checksumMismatch s.stamp)
  | emits (hidle : s.idle = false) (hb : b = Config.endMarker) (hlen : s.len = Config.payloadLen)
      (hsum : checksumValid s.buf = true) (v : TagBits) : ByteOutcome b s (emit v s.stamp)
  | nonAscii (hidle : s.idle = false) (hb : b ≠ Config.endMarker) (hhigh : Config.asciiMax < b) :
      ByteOutcome b s (raiseCause .nonAsciiByte s.stamp)
  | appended (hidle : s.idle = false) (hb : b ≠ Config.endMarker) (hlow : ¬ Config.asciiMax < b) :
      ByteOutcome b s (appendChar b s.stamp)

theorem byteOutcome_closeFrame {b : Byte} (hidle : s.idle = false) (hb : b = Config.endMarker) :
    ByteOutcome b s (closeFrame s.stamp) := by
  rcases closeFrame_cases s.stamp with ⟨hlen, e⟩ | ⟨hlen, htag, e⟩ | ⟨v, hlen, htag, e⟩ <;> rw [e]
  · exact .wrongLength hidle hb hlen
  · exact .invalid hidle hb hlen ((validTag_eq_none _).mp htag)
  · exact .emits hidle hb hlen ((validTag_eq_some _ _).mp htag).1 v

/-- A byte in a running invocation, in the class its mode gives it, has one of the outcomes. -/
theorem exec_classify (b : Byte) (hrun : s.run = true) :
    ∃ u, exec (classify s.idle b) s = .next u ∧ ByteOutcome b s u := by
  unfold classify
  split_ifs with hidle hstart hend hhigh
  · exact ⟨_, takeByte_happens _ _ _ hrun hidle, .begins hidle hstart⟩
  · exact ⟨_, takeByte_happens _ _ _ hrun hidle, .skipped hidle hstart⟩
  all_goals rw [Bool.not_eq_true] at hidle
  · exact ⟨_, takeByte_happens _ _ _ hrun hidle, byteOutcome_closeFrame hidle hend⟩
  · exact ⟨_, takeByte_happens _ _ _ hrun hidle, .nonAscii hidle hend hhigh⟩
  · exact ⟨_, takeByte_happens _ _ _ hrun hidle, .appended hidle hend hhigh⟩

/-- Every outcome of a byte stamps the time, so the watchdog finds no stall after it. -/
theorem ByteOutcome.stall_eq_false {b : Byte} (h : ByteOutcome b s u) : u.stall = false := by
  refine State.stall_of_stamped ?_
  cases h <;> simp [raiseCause_lastRxTime]

/-- What a cycle without `rst` does: it takes a byte, or starts an invocation, or neither and only the watchdog and the
host act. -/
theorem portCycle_cases (hrst : p.rst = false) :
    (s.rxReady = true ∧ p.rxValid = true ∧
      ∃ u, ByteOutcome p.rxData (s.cycleStart p.tick) u ∧ portCycle p s = .next (u.hostWrite p)) ∨
    (s.run = false ∧ portCycle p s =
      .next (State.hostWrite { (s.cycleStart p.tick).toIdle.stamp with run := true, tagv := false } p)) ∨
    (¬ (s.rxReady = true ∧ p.rxValid = true) ∧
      portCycle p s = .next (((s.cycleStart p.tick).watch p.tick).hostWrite p)) := by
  rcases portLoop_cases p s with ⟨-, hrun, -, hloop⟩ | ⟨hready, hvalid, hloop⟩ | ⟨-, hvalid, hloop⟩ |
    ⟨hready, hloop⟩
  · refine .inr (.inl ⟨hrun, ?_⟩)
    have hexec : runEvents (loopInstrs p s) (s.cycleStart p.tick) =
        .next { (s.cycleStart p.tick).toIdle.stamp with run := true, tagv := false } := by
      simp [loopInstrs, hloop, runEvents_single, LoopEvent.instr, exec, execInvoke, hrun]
    rw [portCycle_eq_of_loop hrst hexec, State.watch_noStall _ (State.stall_of_idle rfl)]
  · have hrun : (s.cycleStart p.tick).run = true := by simp [State.run_of_rxReady hready]
    obtain ⟨u, hexec, hu⟩ := exec_classify p.rxData hrun
    refine .inl ⟨hready, hvalid, u, hu, ?_⟩
    rw [portCycle_eq_of_loop (u := u) hrst, State.watch_noStall _ hu.stall_eq_false]
    simpa [loopInstrs, hloop, runEvents_single, LoopEvent.instr] using hexec
  · refine .inr (.inr ⟨by simp [hvalid], portCycle_eq_of_loop hrst ?_⟩)
    simp [loopInstrs, hloop, runEvents_single, LoopEvent.instr, exec, execNodata, raiseCause_transportTimeout]
  · refine .inr (.inr ⟨by simp [hready], portCycle_eq_of_loop hrst ?_⟩)
    simp [loopInstrs, hloop]

end Sys2Proof.Machine

/-! The pulses of a cycle (10_state.md R31, 44_reconnect.md R151, 60_exceptions.md R184). -/

namespace Sys2Proof.Machine

variable {s t u : State} {p : Ports} {b : Byte}

theorem asciiMax_lt_iff (b : Byte) : Config.asciiMax < b ↔ 0x80#8 ≤ b := by
  unfold Config.asciiMax
  bv_omega

theorem ByteOutcome.done_iff (h : ByteOutcome b s u) (hs : s.done = false) :
    u.done = true ↔ b = 0x03#8 ∧ s.idle = false ∧ s.len = 12#4 ∧ checksumValid s.buf = true := by
  cases h <;> simp_all [Config.endMarker, Config.payloadLen]

theorem ByteOutcome.reconnectReq_iff (h : ByteOutcome b s u) (hs : s.reconnectReq = false) :
    u.reconnectReq = true ↔ 0x80#8 ≤ b ∧ s.idle = false := by
  cases h <;> simp_all [raiseCause_reconnectReq, Config.endMarker, asciiMax_lt_iff]

theorem ByteOutcome.diag_of_logOff (h : ByteOutcome b s u) (hlog : s.logEn = false) : u.diag = s.diag := by
  cases h <;> simp [raiseCause_diag, hlog]

/-- The bit of the cause a byte raises when it is taken with logging on; no bit when it raises none. -/
theorem ByteOutcome.diag_of_logOn (h : ByteOutcome b s u) (hlog : s.logEn = true) (hs : s.diag = 0#6) :
    u.diag =
      if s.idle = true then (if b = 0x02#8 then 0#6 else 0b000010#6)
      else if 0x80#8 ≤ b then 0b000100#6
      else if b = 0x03#8 then
        if s.len ≠ 12#4 then 0b001000#6
        else if checksumValid s.buf = false then 0b010000#6
        else 0#6
      else 0#6 := by
  cases h <;>
    simp_all [raiseCause_diag, Config.startMarker, Config.endMarker, Config.payloadLen, asciiMax_lt_iff,
      Cause.diagBit, Cause.code]

/-! What the watchdog leaves in a cycle without a byte. -/

/-- The watchdog of a tick cycle checks the stall condition with `now` advanced. -/
theorem stall_cycleStart_iff (k : Bool) (s : State) :
    (k = true ∧ (s.cycleStart k).stall = true) ↔
      (k = true ∧ ({ s with now := s.now + 1#32 } : State).stall = true) :=
  and_congr_right fun hk => by rw [hk]; rfl

@[simp] theorem State.watch_done (s : State) (k : Bool) : (s.watch k).done = s.done := by
  unfold State.watch
  split <;> simp

theorem State.watch_reconnectReq_iff (k : Bool) (hs : s.reconnectReq = false) :
    (s.watch k).reconnectReq = true ↔ k = true ∧ s.stall = true := by
  unfold State.watch
  split <;> simp_all [raiseCause_reconnectReq]

theorem State.watch_diag_of_logOff (k : Bool) (hlog : s.logEn = false) : (s.watch k).diag = s.diag := by
  unfold State.watch
  split
  · exact raiseCause_diag_of_logOff _ hlog
  · rfl

theorem State.watch_diag_of_logOn (k : Bool) (hlog : s.logEn = true) (hs : s.diag = 0#6) :
    (s.watch k).diag = if k = true ∧ s.stall = true then 0b100000#6 else 0#6 := by
  unfold State.watch
  split <;> simp_all [raiseCause_diag, Cause.diagBit, Cause.code]

/-- Settles O43: for each thing a port cycle can do, the pulses its parts leave. -/
theorem pulsesOfAPortCycle : Obligations.PulsesOfAPortCycle := by
  intro p s t hrst ht
  rcases portCycle_cases (s := s) hrst with ⟨hready, hvalid, u, hu, hcycle⟩ | ⟨hrun, hcycle⟩ | ⟨hnone, hcycle⟩
  all_goals
    obtain rfl := Host.Outcome.next.inj (hcycle.symm.trans ht)
    simp only [State.hostWrite_done, State.hostWrite_reconnectReq, State.hostWrite_diag]
  · refine ⟨?done, ?reconnect, fun hlog => ?off, fun hlog => ?on⟩
    case done => simp [hu.done_iff (s.cycleStart_done _), hready, hvalid]
    case reconnect => simp [hu.reconnectReq_iff (s.cycleStart_reconnectReq _), hready, hvalid]
    case off => rw [hu.diag_of_logOff (by simpa using hlog), State.cycleStart_diag]
    case on => simp [hu.diag_of_logOn (by simpa using hlog) (s.cycleStart_diag _), hready, hvalid]
  · have hready : s.rxReady = false := by simp [State.rxReady, hrun]
    simp [hready, State.stall, hrun]
  · refine ⟨?done, ?reconnect, fun hlog => ?off, fun hlog => ?on⟩
    case done =>
      rw [State.watch_done, State.cycleStart_done]
      tauto
    case reconnect =>
      rw [State.watch_reconnectReq_iff _ (s.cycleStart_reconnectReq _), stall_cycleStart_iff]
      tauto
    case off => rw [State.watch_diag_of_logOff _ (by simpa using hlog), State.cycleStart_diag]
    case on =>
      rw [State.watch_diag_of_logOn _ (by simpa using hlog) (s.cycleStart_diag _), if_neg hnone]
      simp only [stall_cycleStart_iff]

end Sys2Proof.Machine

/-! A stalled frame is cleared, once (43_watchdog.md R148). -/

namespace Sys2Proof.Machine

/-- Ports that give the decode loop no byte and leave the stall window alone. -/
def Ports.Quiet (p : Ports) : Prop :=
  p.rst = false ∧ p.rxValid = false ∧ (p.cfgWe = true → p.cfgAddr ≠ 0#2)

/-- What a quiet cycle does while an invocation runs: time and the host's write, no event of the decode loop. -/
def State.quietCycle (s : State) (p : Ports) : State := ((s.cycleStart p.tick).watch p.tick).hostWrite p

/-- Running, in Idle, with no frame. -/
structure State.Cleared (s : State) : Prop where
  run : s.run = true
  idle : s.idle = true
  len : s.len = 0#4

/-- `reconnect_req` is shown after `k` steps. -/
def PulsesAt (s : State) (k : Nat) : Prop := ∃ u : State, core.run k s = .next u ∧ u.reconnectReq = true

/-- Within `n` steps the frame is cleared, and `reconnect_req` is shown after exactly one of them. -/
def ClearsOnce (s : State) (n : Nat) : Prop :=
  (∃ t : State, core.run n s = .next t ∧ t.Cleared) ∧ ∃! k : Nat, 0 < k ∧ k ≤ n ∧ PulsesAt s k

variable {s t : State} {p : Ports} {ps : List Ports} {rest : List Input} {xs : List Input} {n k : Nat}

/-! Runs -/

theorem core_run_succ (h : step s = .next t) (k : Nat) : core.run (k + 1) s = core.run k t := by
  have hcore : core.step s = .next t := h
  simp only [Host.Core.run, hcore]

theorem pulsesAt_zero : PulsesAt s 0 ↔ s.reconnectReq = true :=
  ⟨fun ⟨_, hu, hpulse⟩ => Host.Outcome.next.inj hu ▸ hpulse, fun h => ⟨s, rfl, h⟩⟩

theorem pulsesAt_succ (h : step s = .next t) (k : Nat) : PulsesAt s (k + 1) ↔ PulsesAt t k := by
  simp only [PulsesAt, core_run_succ h]

/-- A first step without the pulse only postpones what follows. -/
theorem ClearsOnce.of_step (h : step s = .next t) (hpulse : t.reconnectReq = false) (ht : ClearsOnce t n) :
    ClearsOnce s (n + 1) := by
  obtain ⟨⟨u, hu, hcleared⟩, k, ⟨hpos, hle, hk⟩, hunique⟩ := ht
  refine ⟨⟨u, by rwa [core_run_succ h], hcleared⟩, k + 1, ⟨by omega, by omega, (pulsesAt_succ h k).mpr hk⟩, ?_⟩
  rintro (_ | j) ⟨hj, hjle, hjp⟩
  · omega
  · rw [pulsesAt_succ h] at hjp
    have hj0 : j ≠ 0 := by
      rintro rfl
      simp [pulsesAt_zero, hpulse] at hjp
    rw [hunique j ⟨by omega, by omega, hjp⟩]

/-- A first step with the pulse, and none in the steps after it. -/
theorem ClearsOnce.of_fire (h : step s = .next t) (hpulse : t.reconnectReq = true)
    (hafter : ∀ k ≤ n, ∃ u : State, core.run k t = .next u ∧ u.Cleared ∧ (0 < k → u.reconnectReq = false)) :
    ClearsOnce s (n + 1) := by
  obtain ⟨u, hu, hcleared, -⟩ := hafter n le_rfl
  refine ⟨⟨u, by rwa [core_run_succ h], hcleared⟩, 1, ⟨by omega, by omega, ?_⟩, ?_⟩
  · exact (pulsesAt_succ h 0).mpr (pulsesAt_zero.mpr hpulse)
  · rintro (_ | _ | j) ⟨hj, hjle, hjp⟩
    · omega
    · rfl
    · obtain ⟨v, hv, -, hlow⟩ := hafter (j + 1) (by omega)
      obtain ⟨w, hw, hwp⟩ := (pulsesAt_succ h _).mp hjp
      obtain rfl := Host.Outcome.next.inj (hv.symm.trans hw)
      simp [hlow (by omega)] at hwp

/-! Quiet cycles -/

theorem portCycle_quiet (hp : p.Quiet) (hrun : s.run = true) : portCycle p s = .next (s.quietCycle p) := by
  obtain ⟨hrst, hvalid, -⟩ := hp
  rcases portCycle_cases (s := s) hrst with ⟨-, hbyte, -⟩ | ⟨hstop, -⟩ | ⟨-, hcycle⟩
  · simp [hvalid] at hbyte
  · simp [hrun] at hstop
  · exact hcycle

theorem step_quiet (hp : p.Quiet) (hrun : s.run = true) (hin : s.inputs = .ports p :: xs) :
    step s = .next ((s.withInputs xs).quietCycle p) := by
  rw [step_ports hin, portCycle_quiet (s := s.withInputs xs) hp hrun]

@[simp] theorem State.watch_run (s : State) (k : Bool) : (s.watch k).run = s.run := by
  unfold State.watch
  split <;> simp

@[simp] theorem State.watch_inputs (s : State) (k : Bool) : (s.watch k).inputs = s.inputs := by
  unfold State.watch
  split <;> simp

@[simp] theorem State.quietCycle_run (s : State) (p : Ports) : (s.quietCycle p).run = s.run := by
  simp [State.quietCycle]

@[simp] theorem State.quietCycle_inputs (s : State) (p : Ports) : (s.quietCycle p).inputs = s.inputs := by
  simp [State.quietCycle]

/-- A quiet cycle in which the watchdog does not fire is only its start and the host's write. -/
theorem State.quietCycle_noStall (hstall : (s.cycleStart p.tick).stall = false ∨ p.tick = false) :
    s.quietCycle p = (s.cycleStart p.tick).hostWrite p := by
  unfold State.quietCycle
  rcases hstall with h | h
  · rw [State.watch_noStall _ h]
  · rw [h, State.watch_noTick]

/-- A quiet cycle in which the watchdog fires clears the frame and asks for a reconnect. -/
theorem State.quietCycle_fires (htick : p.tick = true) (hstall : (s.cycleStart true).stall = true) :
    (s.quietCycle p).reconnectReq = true ∧ (s.quietCycle p).idle = true ∧ (s.quietCycle p).len = 0#4 := by
  rw [State.quietCycle, htick, State.watch_fires hstall]
  simp [raiseCause]

/-! After the clear -/

theorem State.Cleared.quietCycle (h : s.Cleared) (p : Ports) :
    (s.quietCycle p).Cleared ∧ (s.quietCycle p).reconnectReq = false := by
  have hidle : (s.cycleStart p.tick).idle = true := by simp [h.idle]
  rw [State.quietCycle_noStall (.inl (State.stall_of_idle hidle))]
  exact ⟨⟨by simp [h.run], by simp [h.idle], by simp [h.len]⟩, by simp⟩

theorem State.Cleared.step_quiet (h : s.Cleared) (hp : p.Quiet) (hin : s.inputs = .ports p :: xs) :
    ∃ t, step s = .next t ∧ t.inputs = xs ∧ t.Cleared ∧ t.reconnectReq = false := by
  have hs0 : (s.withInputs xs).Cleared := ⟨h.run, h.idle, h.len⟩
  exact ⟨_, Machine.step_quiet hp h.run hin, by simp, hs0.quietCycle p⟩

/-- With no frame in progress quiet cycles never ask for a reconnect. -/
theorem core_run_cleared (hs : s.Cleared) (hq : ∀ p ∈ ps, p.Quiet) (hin : s.inputs = ps.map Input.ports ++ rest)
    (hk : k ≤ ps.length) :
    ∃ u : State, core.run k s = .next u ∧ u.Cleared ∧ (0 < k → u.reconnectReq = false) := by
  induction ps generalizing s k with
  | nil =>
    obtain rfl : k = 0 := by simpa using hk
    exact ⟨s, rfl, hs, fun h => absurd h (lt_irrefl 0)⟩
  | cons p ps ih =>
    cases k with
    | zero => exact ⟨s, rfl, hs, fun h => absurd h (lt_irrefl 0)⟩
    | succ k =>
      obtain ⟨t, hstep, hinputs, ht, hpulse⟩ := hs.step_quiet (hq p (by simp)) hin
      obtain ⟨u, hu, hcleared, hlow⟩ := ih ht (fun q hqm => hq q (by simp [hqm])) hinputs (by simpa using hk)
      refine ⟨u, by rwa [core_run_succ hstep], hcleared, fun _ => ?_⟩
      rcases Nat.eq_zero_or_pos k with rfl | hpos
      · exact Host.Outcome.next.inj hu ▸ hpulse
      · exact hlow hpos

/-! Waiting for the clear -/

/-- A frame in progress whose elapsed time fits sixteen bits. -/
structure State.Waiting (s : State) : Prop where
  run : s.run = true
  collecting : s.idle = false
  bounded : s.elapsed.toNat ≤ 65535

/-- The stall condition of a frame in progress, as numbers. -/
theorem State.stall_iff (hrun : s.run = true) (hidle : s.idle = false) :
    s.stall = true ↔ s.stallWindow.toNat < s.elapsed.toNat := by
  have hwindow : (s.stallWindow.setWidth 32).toNat = s.stallWindow.toNat :=
    BitVec.toNat_setWidth_of_le (by decide)
  simp only [State.stall, hrun, hidle, BitVec.lt_def, hwindow, Bool.not_false, Bool.and_self, Bool.true_and,
    decide_eq_true_eq]

/-- Within the bound the count of elapsed units does not wrap. -/
theorem State.Waiting.elapsed_cycleStart (h : s.Waiting) (k : Bool) :
    (s.cycleStart k).elapsed.toNat = s.elapsed.toNat + k.toNat := by
  have hb := h.bounded
  cases k with
  | false => rfl
  | true =>
    rw [State.cycleStart_elapsed_tick, Bool.toNat_true]
    bv_omega

theorem State.Waiting.stall_cycleStart_iff (h : s.Waiting) (k : Bool) :
    (s.cycleStart k).stall = true ↔ s.stallWindow.toNat < s.elapsed.toNat + k.toNat := by
  rw [State.stall_iff (by simp [h.run]) (by simp [h.collecting]), State.cycleStart_stallWindow,
    h.elapsed_cycleStart]

/-- A quiet cycle that does not fire leaves the frame waiting, and its tick counted. -/
theorem State.Waiting.quietCycle (h : s.Waiting) (hp : p.Quiet)
    (hfire : ¬ (p.tick = true ∧ s.stallWindow.toNat < s.elapsed.toNat + 1)) :
    (s.quietCycle p).Waiting ∧ (s.quietCycle p).reconnectReq = false ∧
      (s.quietCycle p).stallWindow = s.stallWindow ∧
      (s.quietCycle p).elapsed.toNat = s.elapsed.toNat + p.tick.toNat := by
  have hstall : (s.cycleStart p.tick).stall = false ∨ p.tick = false := by
    cases htick : p.tick with
    | false => exact .inr rfl
    | true =>
      refine .inl (Bool.eq_false_iff.mpr fun hs => hfire ⟨htick, ?_⟩)
      exact (h.stall_cycleStart_iff true).mp hs
  have hbounded : s.elapsed.toNat + p.tick.toNat ≤ 65535 := by
    have hb := h.bounded
    cases htick : p.tick with
    | false => exact hb
    | true =>
      rw [Bool.toNat_true]
      by_contra hover
      exact hfire ⟨htick, by omega⟩
  rw [State.quietCycle_noStall hstall]
  refine ⟨⟨by simp [h.run], by simp [h.collecting], ?_⟩, by simp, ?_, ?_⟩
  · rwa [State.hostWrite_elapsed, h.elapsed_cycleStart]
  · rw [State.hostWrite_stallWindow _ hp.2.2, State.cycleStart_stallWindow]
  · rw [State.hostWrite_elapsed, h.elapsed_cycleStart]

theorem State.Waiting.step_waits (h : s.Waiting) (hp : p.Quiet) (hin : s.inputs = .ports p :: xs)
    (hfire : ¬ (p.tick = true ∧ s.stallWindow.toNat < s.elapsed.toNat + 1)) :
    ∃ t, step s = .next t ∧ t.inputs = xs ∧ t.Waiting ∧ t.reconnectReq = false ∧
      t.stallWindow = s.stallWindow ∧ t.elapsed.toNat = s.elapsed.toNat + p.tick.toNat := by
  have hs0 : (s.withInputs xs).Waiting := ⟨h.run, h.collecting, h.bounded⟩
  exact ⟨_, step_quiet hp h.run hin, by simp, hs0.quietCycle hp hfire⟩

theorem State.Waiting.step_fires (h : s.Waiting) (hp : p.Quiet) (hin : s.inputs = .ports p :: xs)
    (htick : p.tick = true) (hover : s.stallWindow.toNat < s.elapsed.toNat + 1) :
    ∃ t, step s = .next t ∧ t.inputs = xs ∧ t.Cleared ∧ t.reconnectReq = true := by
  have hs0 : (s.withInputs xs).Waiting := ⟨h.run, h.collecting, h.bounded⟩
  obtain ⟨hpulse, hidle, hlen⟩ := State.quietCycle_fires htick ((hs0.stall_cycleStart_iff true).mpr hover)
  exact ⟨_, step_quiet hp h.run hin, by simp, ⟨by simp [h.run], hidle, hlen⟩, hpulse⟩

/-- The tick cycles among `ps`. -/
def tickCount (ps : List Ports) : Nat := (ps.filter fun p => p.tick).length

theorem tickCount_cons (p : Ports) (ps : List Ports) : tickCount (p :: ps) = tickCount ps + p.tick.toNat := by
  cases htick : p.tick <;> simp [tickCount, htick]

/-- The first tick that makes the elapsed time exceed the window fires; after it nothing does. The ticks to come are
enough when, counted onto the elapsed time, they exceed the window. -/
theorem clearsOnce_of_waiting (hs : s.Waiting) (hq : ∀ p ∈ ps, p.Quiet)
    (hin : s.inputs = ps.map Input.ports ++ rest) (hsome : 0 < tickCount ps)
    (henough : s.stallWindow.toNat < s.elapsed.toNat + tickCount ps) : ClearsOnce s ps.length := by
  induction ps generalizing s with
  | nil => exact absurd hsome (lt_irrefl 0)
  | cons p ps ih =>
    have hp : p.Quiet := hq p (by simp)
    have hrest : ∀ q ∈ ps, q.Quiet := fun q hqm => hq q (by simp [hqm])
    rw [tickCount_cons] at hsome henough
    by_cases hfire : p.tick = true ∧ s.stallWindow.toNat < s.elapsed.toNat + 1
    · obtain ⟨t, hstep, hinputs, hcleared, hpulse⟩ := hs.step_fires hp hin hfire.1 hfire.2
      exact ClearsOnce.of_fire hstep hpulse fun k hk => core_run_cleared hcleared hrest hinputs hk
    · obtain ⟨t, hstep, hinputs, hwaiting, hpulse, hwindow, helapsed⟩ := hs.step_waits hp hin hfire
      have hmore : 0 < tickCount ps := by
        cases htick : p.tick with
        | false => simpa [htick] using hsome
        | true =>
          have hnot : ¬ s.stallWindow.toNat < s.elapsed.toNat + 1 := fun h => hfire ⟨htick, h⟩
          simp only [htick, Bool.toNat_true] at henough
          omega
      exact ClearsOnce.of_step hstep hpulse (ih hwaiting hrest hinputs hmore (by rw [hwindow]; omega))

/-- Settles O53: STALL_WINDOW + 1 ticks are enough whatever time has elapsed before them. -/
theorem stalledFrameIsClearedOnce : Obligations.StalledFrameIsClearedOnce := by
  intro s ps rest hrun hidle hbounded hq hticks hin
  have hcount : tickCount ps = s.stallWindow.toNat + 1 := hticks
  obtain ⟨⟨t, ht, hcleared⟩, honce⟩ :=
    clearsOnce_of_waiting ⟨hrun, hidle, hbounded hrun hidle⟩ hq hin (by omega) (by omega)
  exact ⟨⟨t, ht, hcleared.run, hcleared.idle, hcleared.len⟩, honce⟩

end Sys2Proof.Machine

/-! The decoder reads back what the encoder writes, format by format (30_encoding.md R84). -/

namespace Sys2Proof

/-- A format B word is read as the class of its byte in the mode of its mode bit. -/
theorem decode_formatB (m : Bool) (b : Byte) : decode (formatB m b) = classify (!m) b := by
  revert m b
  decide

theorem addrField_formatC (kind : BitVec 3) (a : CfgAddr) (d : CfgWord) : addrField (formatC kind a d) = a := by
  refine BitVec.eq_of_getLsbD_eq fun i hi => ?_
  interval_cases i <;> simp [addrField, formatC]

theorem dataField_formatC (kind : BitVec 3) (a : CfgAddr) (d : CfgWord) : dataField (formatC kind a d) = d := by
  refine BitVec.eq_of_getLsbD_eq fun i hi => ?_
  have hdata : i < 24 ∧ i < 16 ∧ i < 21 := by omega
  simp [dataField, formatC, hi, hdata]

/-- The three bits that `decode` reads are those of the kind (R83). -/
theorem kindBits_eq {w : EventWord} {k : BitVec 3} (h : w.extractLsb' 21 3 = k) :
    w.getLsbD 23 = k.getLsbD 2 ∧ w.getLsbD 22 = k.getLsbD 1 ∧ w.getLsbD 21 = k.getLsbD 0 := by
  subst h
  simp

theorem decode_of_kind_cfgwr {w : EventWord} (h : w.extractLsb' 21 3 = 0b100#3) :
    decode w = .cfgwr (addrField w) (dataField w) := by
  obtain ⟨h23, h22, h21⟩ := kindBits_eq h
  rw [decode, h23, h22, h21]
  rfl

theorem decode_of_kind_cfgrd {w : EventWord} (h : w.extractLsb' 21 3 = 0b101#3) :
    decode w = .cfgrd (addrField w) := by
  obtain ⟨h23, h22, h21⟩ := kindBits_eq h
  rw [decode, h23, h22, h21]
  rfl

/-- The operand conditions of `Instr.wf` are those under which `classify` answers the event again. -/
theorem decode_encode {i : Instr} (hwf : i.wf = true) : decode (encode i) = i := by
  cases i with
  | reset => rfl
  | rxStart => exact decode_formatB _ _
  | rxSkip b =>
    have hb : b ≠ Config.startMarker := by simpa [Instr.wf] using hwf
    simp [encode, decode_formatB, classify, hb]
  | rxEnd => exact decode_formatB _ _
  | rxNonascii b =>
    have hhigh : Config.asciiMax < b := by simpa [Instr.wf] using hwf
    have hb : b ≠ Config.endMarker := by
      rintro rfl
      exact absurd hhigh (by decide)
    simp [encode, decode_formatB, classify, hb, hhigh]
  | rxData b =>
    obtain ⟨hlow, hb⟩ : b ≤ Config.asciiMax ∧ b ≠ Config.endMarker := by simpa [Instr.wf] using hwf
    simp [encode, decode_formatB, classify, hb, BitVec.not_lt.mpr hlow]
  | nodata => rfl
  | tick => rfl
  | invoke => rfl
  | cfgwr a d =>
    rw [decode_of_kind_cfgwr (Laws.EncodeKind.cfgwr a d), encode, addrField_formatC, dataField_formatC]
  | cfgrd a => rw [decode_of_kind_cfgrd (Laws.EncodeKind.cfgrd a), encode, addrField_formatC]
  | wake => rfl

end Sys2Proof

namespace Sys2Proof.Machine

/-- An event word given by its number is placed as it is: it has no bit above bit 23. -/
theorem State.withFetchWord_toNat (s : State) (w : EventWord) :
    s.withFetchWord 24 w.toNat = s.withInputs (.word w :: s.inputs) := by
  rw [State.withFetchWord, Nat.mod_eq_of_lt w.isLt, BitVec.ofNat_toNat, BitVec.setWidth_eq]

/-- Settles O46: `step_word` for the placed word, and `decode_encode`. -/
theorem fetchWordRunsEncodedEvent : Obligations.FetchWordRunsEncodedEvent := by
  intro s i hwf
  rw [State.withFetchWord_toNat, step_word (State.withInputs_inputs s _), decode_encode hwf]
  rfl

end Sys2Proof.Machine

/-! One cycle of the ports, its events spelled out one after another (20_memory.md R64). -/

namespace Sys2Proof.Machine

theorem andThen_assoc (o : Answer) (f g : State → Answer) :
    (o.andThen f).andThen g = o.andThen fun s => (f s).andThen g := by
  cases o <;> rfl

theorem runEvents_optional (c : Bool) (i : Instr) :
    runEvents (if c then [i] else []) = fun s => if c then exec i s else .next s := by
  funext s
  cases c
  · rfl
  · exact runEvents_single i s

/-- What the decode loop of a cycle that begins in `s` does to the state `u` it meets: its choice of event is made
from `run`, `idle` and `rx_ready` of `s` (R64 step 4). -/
theorem runEvents_loopInstrs (p : Ports) (s : State) :
    runEvents (loopInstrs p s) = fun u =>
      if p.invoke = true ∧ s.run = false then exec .invoke u
      else if s.rxReady = true ∧ p.rxValid = true then exec (classify s.idle p.rxData) u
      else if s.rxReady = true then exec .nodata u
      else .next u := by
  funext u
  unfold loopInstrs portLoop
  split_ifs <;> simp_all [runEvents_single, LoopEvent.instr]

/-- Settles O41: the events of the ports in the order of `instrs_portEvents`, each run on the state before it. -/
theorem cycleAppliesEventsInOrder : Obligations.CycleAppliesEventsInOrder := by
  intro p s
  refine ⟨portCycle_rst p s, fun hrst => ?_, rfl⟩
  rw [portCycle_events p s hrst, runCycle, instrs_portEvents]
  simp only [runEvents_append, andThen_assoc, runEvents_optional, runEvents_loopInstrs]
  rfl

end Sys2Proof.Machine

/-! The writers of each state element (20_memory.md R69, 60_exceptions.md R181, 45_host_config.md R162): what an event
can do, said once, and then for each element the outcomes that write it. -/

namespace Sys2Proof.Machine

/-- What an event can make of state `s`: one constructor per effect, under its guard, and `stays` for an event without
an effect. -/
inductive EventOutcome (s : State) : Instr → State → Prop where
  | stays (i : Instr) : EventOutcome s i s
  | resets : EventOutcome s .reset { State.reset with
      buf := freeSlots s.freeIndex, inputs := s.inputs, lastRead := s.lastRead, freeIndex := s.freeIndex + 12 }
  | begins (hrun : s.run = true) (hidle : s.idle = true) : EventOutcome s .rxStart s.stamp.beginFrame
  | skips (b : Byte) (hrun : s.run = true) (hidle : s.idle = true) :
      EventOutcome s (.rxSkip b) (raiseCause .invalidLeadingByte s.stamp)
  | wrongLength (hrun : s.run = true) (hidle : s.idle = false) (hlen : s.len ≠ Config.payloadLen) :
      EventOutcome s .rxEnd (raiseCause .lengthMismatch s.stamp)
  | invalid (hrun : s.run = true) (hidle : s.idle = false) (hlen : s.len = Config.payloadLen)
      (htag : validTag s.buf = none) : EventOutcome s .rxEnd (raiseCause .checksumMismatch s.stamp)
  | emits (v : TagBits) (hrun : s.run = true) (hidle : s.idle = false) (hlen : s.len = Config.payloadLen)
      (htag : validTag s.buf = some v) : EventOutcome s .rxEnd (emit v s.stamp)
  | nonAscii (b : Byte) (hrun : s.run = true) (hidle : s.idle = false) :
      EventOutcome s (.rxNonascii b) (raiseCause .nonAsciiByte s.stamp)
  | appends (b : Byte) (hrun : s.run = true) (hidle : s.idle = false) :
      EventOutcome s (.rxData b) (appendChar b s.stamp)
  | ticks : EventOutcome s .tick { s with now := s.now + 1#32 }
  | starts (hrun : s.run = false) : EventOutcome s .invoke { s.toIdle.stamp with run := true, tagv := false }
  | setsWindow (d : CfgWord) : EventOutcome s (.cfgwr 0#2 d) { s with stallWindow := d }
  | setsLog (d : CfgWord) : EventOutcome s (.cfgwr 1#2 d) { s with logEn := d.getLsbD 0 }
  | reads (a : CfgAddr) : EventOutcome s (.cfgrd a) { s with lastRead := some (s.readCfg a) }
  | fires (hstall : s.stall = true) : EventOutcome s .wake (raiseCause .stallTimeout s)

variable {i : Instr} {s t : State}

theorem EventOutcome.of_takeByte {mode : Bool} {f : State → State} (h : takeByte mode f s = .next t)
    (hf : s.run = true → s.idle = mode → EventOutcome s i (f s.stamp)) : EventOutcome s i t := by
  rcases takeByte_cases _ _ _ _ h with ⟨hrun, hidle, rfl⟩ | ⟨-, rfl⟩
  · exact hf hrun hidle
  · exact .stays i

theorem eventOutcome_closeFrame (hrun : s.run = true) (hidle : s.idle = false) :
    EventOutcome s .rxEnd (closeFrame s.stamp) := by
  rcases closeFrame_cases s.stamp with ⟨hlen, e⟩ | ⟨hlen, htag, e⟩ | ⟨v, hlen, htag, e⟩ <;> rw [e]
  · exact .wrongLength hrun hidle hlen
  · exact .invalid hrun hidle hlen htag
  · exact .emits v hrun hidle hlen htag

theorem eventOutcome_cfgwr (a : CfgAddr) (d : CfgWord) (h : execCfgwr a d s = .next t) :
    EventOutcome s (.cfgwr a d) t := by
  obtain rfl := Host.Outcome.next.inj h
  split_ifs with h0 h1
  · exact h0 ▸ .setsWindow d
  · exact h1 ▸ .setsLog d
  · exact .stays _

theorem exec_outcome (h : exec i s = .next t) : EventOutcome s i t := by
  cases i with
  | reset => exact Host.Outcome.next.inj h ▸ .resets
  | rxStart => exact .of_takeByte h .begins
  | rxSkip b => exact .of_takeByte h (.skips b)
  | rxEnd => exact .of_takeByte h eventOutcome_closeFrame
  | rxNonascii b => exact .of_takeByte h (.nonAscii b)
  | rxData b => exact .of_takeByte h (.appends b)
  | nodata => exact Host.Outcome.next.inj h ▸ .stays _
  | tick => exact Host.Outcome.next.inj h ▸ .ticks
  | invoke =>
    obtain rfl := Host.Outcome.next.inj h
    split
    · exact .stays _
    · next hrun => exact .starts (Bool.eq_false_iff.mpr hrun)
  | cfgwr a d => exact eventOutcome_cfgwr a d h
  | cfgrd a => exact Host.Outcome.next.inj h ▸ .reads a
  | wake =>
    obtain rfl := Host.Outcome.next.inj h
    split
    · next hstall => exact .fires hstall
    · exact .stays _

/-- A cause that changes the report does so with logging on. -/
theorem logEn_of_raiseCause_diag {k : Cause} (hne : (raiseCause k s).diag ≠ s.diag) : s.logEn = true := by
  by_contra hoff
  exact hne (raiseCause_diag_of_logOff k (Bool.eq_false_iff.mpr hoff))

namespace EventOutcome

/-! Every lemma names the outcomes that write its element; the rest leave the element as it was. -/

theorem buf_writers (h : EventOutcome s i t) (hne : t.buf ≠ s.buf) : (∃ b, i = .rxData b) ∨ i = .reset := by
  cases h with
  | appends b => exact .inl ⟨b, rfl⟩
  | resets => exact .inr rfl
  | _ => simp at hne

theorem len_writers (h : EventOutcome s i t) (hne : t.len ≠ s.len) :
    (∃ b, i = .rxData b) ∨ (t.len = 0#4 ∧
      (i = .invoke ∨ i = .rxStart ∨ i = .rxEnd ∨ (∃ b, i = .rxNonascii b) ∨ (i = .wake ∧ s.stall = true) ∨
        i = .reset)) := by
  cases h with
  | appends b => exact .inl ⟨b, rfl⟩
  | resets => exact .inr ⟨rfl, by simp⟩
  | starts | begins | wrongLength | invalid | emits | nonAscii => exact .inr ⟨rfl, by simp⟩
  | fires hstall => exact .inr ⟨rfl, by simp [hstall]⟩
  | _ => simp [raiseCause_invalidLeadingByte] at hne

theorem lastRxTime_writers (h : EventOutcome s i t) (hne : t.lastRxTime ≠ s.lastRxTime) :
    i = .rxStart ∨ (∃ b, i = .rxSkip b) ∨ i = .rxEnd ∨ (∃ b, i = .rxNonascii b) ∨ (∃ b, i = .rxData b) ∨
      i = .invoke ∨ (i = .wake ∧ s.stall = true) ∨ i = .reset := by
  cases h with
  | begins | skips | wrongLength | invalid | emits | nonAscii | appends | starts | resets => simp
  | fires hstall => simp [hstall]
  | _ => simp at hne

theorem now_writers (h : EventOutcome s i t) (hne : t.now ≠ s.now) : i = .tick ∨ i = .reset := by
  cases h with
  | ticks => exact .inl rfl
  | resets => exact .inr rfl
  | _ => simp at hne

theorem config_writers (h : EventOutcome s i t) (hne : t.stallWindow ≠ s.stallWindow ∨ t.logEn ≠ s.logEn) :
    (∃ a d, i = .cfgwr a d) ∨ i = .reset := by
  cases h with
  | setsWindow d | setsLog d => exact .inl ⟨_, d, rfl⟩
  | resets => exact .inr rfl
  | _ => simp at hne

theorem tag_writers (h : EventOutcome s i t) (hne : t.tagBin ≠ s.tagBin ∨ t.tagAscii ≠ s.tagAscii) :
    (i = .rxEnd ∧ t.done = true) ∨ i = .reset := by
  cases h with
  | emits => exact .inl ⟨rfl, rfl⟩
  | resets => exact .inr rfl
  | _ => simp at hne

theorem tagv_writers (h : EventOutcome s i t) (hne : t.tagv ≠ s.tagv) :
    (i = .rxEnd ∧ t.done = true) ∨ i = .invoke ∨ i = .reset := by
  cases h with
  | emits => exact .inl ⟨rfl, rfl⟩
  | starts => exact .inr (.inl rfl)
  | resets => exact .inr (.inr rfl)
  | _ => simp at hne

theorem idle_writers (h : EventOutcome s i t) (hne : t.idle ≠ s.idle) :
    (t.idle = false ∧ i = .rxStart) ∨ (t.idle = true ∧
      (i = .invoke ∨ i = .rxEnd ∨ (∃ b, i = .rxNonascii b) ∨ (i = .wake ∧ s.stall = true) ∨ i = .reset)) := by
  cases h with
  | begins => exact .inl ⟨rfl, rfl⟩
  | starts | wrongLength | invalid | emits | nonAscii | resets => exact .inr ⟨rfl, by simp⟩
  | fires hstall => exact .inr ⟨rfl, by simp [hstall]⟩
  | _ => simp [raiseCause_invalidLeadingByte] at hne

theorem run_writers (h : EventOutcome s i t) (hne : t.run ≠ s.run) :
    (t.run = true ∧ i = .invoke) ∨ (t.run = false ∧ ((i = .rxEnd ∧ t.done = true) ∨ i = .reset)) := by
  cases h with
  | starts => exact .inl ⟨rfl, rfl⟩
  | emits => exact .inr ⟨rfl, .inl ⟨rfl, rfl⟩⟩
  | resets => exact .inr ⟨rfl, .inr rfl⟩
  | _ => simp at hne

theorem done_writers (h : EventOutcome s i t) (hne : t.done ≠ s.done) :
    (t.done = true ∧ i = .rxEnd) ∨ (t.done = false ∧ i = .reset) := by
  cases h with
  | emits => exact .inl ⟨rfl, rfl⟩
  | resets => exact .inr ⟨rfl, rfl⟩
  | _ => simp at hne

theorem reconnectReq_writers (h : EventOutcome s i t) (hne : t.reconnectReq ≠ s.reconnectReq) :
    (t.reconnectReq = true ∧ ((∃ b, i = .rxNonascii b) ∨ (i = .wake ∧ s.stall = true))) ∨
      (t.reconnectReq = false ∧ i = .reset) := by
  cases h with
  | nonAscii b => exact .inl ⟨rfl, .inl ⟨b, rfl⟩⟩
  | fires hstall => exact .inl ⟨rfl, .inr ⟨rfl, hstall⟩⟩
  | resets => exact .inr ⟨rfl, rfl⟩
  | _ => simp [raiseCause_reconnectReq] at hne

theorem diag_writers (h : EventOutcome s i t) (hne : t.diag ≠ s.diag) :
    (s.logEn = true ∧ ((∃ b, i = .rxSkip b) ∨ i = .rxEnd ∨ (∃ b, i = .rxNonascii b) ∨
      (i = .wake ∧ s.stall = true))) ∨ (t.diag = 0#6 ∧ i = .reset) := by
  cases h with
  | skips | wrongLength | invalid | nonAscii =>
    exact .inl ⟨logEn_of_raiseCause_diag (s := s.stamp) hne, by simp⟩
  | fires hstall => exact .inl ⟨logEn_of_raiseCause_diag hne, by simp [hstall]⟩
  | resets => exact .inr ⟨rfl, rfl⟩
  | _ => simp at hne

theorem inputs_eq (h : EventOutcome s i t) : t.inputs = s.inputs := by
  cases h <;> simp

theorem lastRead_writers (h : EventOutcome s i t) (hne : t.lastRead ≠ s.lastRead) : ∃ a, i = .cfgrd a := by
  cases h with
  | reads a => exact ⟨a, rfl⟩
  | _ => simp at hne

theorem freeIndex_writers (h : EventOutcome s i t) (hne : t.freeIndex ≠ s.freeIndex) : i = .reset := by
  cases h with
  | resets => rfl
  | _ => simp at hne

end EventOutcome

/-- Settles O36: the writers of each element, from the outcomes of the event. -/
theorem eachElementHasItsWriters : Obligations.EachElementHasItsWriters := by
  intro i s t hexec
  have h := exec_outcome hexec
  exact ⟨h.buf_writers, h.len_writers, h.lastRxTime_writers, h.now_writers, h.config_writers, h.tag_writers,
    h.tagv_writers, h.idle_writers, h.run_writers, h.done_writers, h.reconnectReq_writers, h.diag_writers,
    h.inputs_eq, h.lastRead_writers, h.freeIndex_writers⟩

end Sys2Proof.Machine

/-! Bytes of a trace, one after another: scanning in Idle, collecting a frame, and its end marker
(41_frame_decoder.md R108 to R115). -/

namespace Sys2Proof.Machine

variable {s t c : State} {b : Byte} {cs noise : List Byte} {p : Payload} {v : TagBits} {rest xs : List Input}
  {m n : Nat}

theorem core_run_add (h : core.run m s = .next t) (n : Nat) : core.run (m + n) s = core.run n t := by
  induction m generalizing s with
  | zero =>
    obtain rfl := Host.Outcome.next.inj h
    rw [Nat.zero_add]
  | succ m ih =>
    rw [Nat.succ_add]
    cases hstep : step s with
    | next u =>
      rw [core_run_succ hstep] at h ⊢
      exact ih h
    | fault r => cases r
    | refused r =>
      have hcore : core.step s = .refused r := hstep
      simp [Host.Core.run, hcore] at h

/-- The state in which the one event of a cycle is applied: its input taken off the list, the pulses cleared. -/
def State.eventStart (s : State) (xs : List Input) : State := (s.withInputs xs).clearPulses

@[simp] theorem State.eventStart_buf (s : State) (xs : List Input) : (s.eventStart xs).buf = s.buf := rfl
@[simp] theorem State.eventStart_len (s : State) (xs : List Input) : (s.eventStart xs).len = s.len := rfl
@[simp] theorem State.eventStart_idle (s : State) (xs : List Input) : (s.eventStart xs).idle = s.idle := rfl
@[simp] theorem State.eventStart_run (s : State) (xs : List Input) : (s.eventStart xs).run = s.run := rfl
@[simp] theorem State.eventStart_stallWindow (s : State) (xs : List Input) :
    (s.eventStart xs).stallWindow = s.stallWindow := rfl
@[simp] theorem State.eventStart_logEn (s : State) (xs : List Input) : (s.eventStart xs).logEn = s.logEn := rfl
@[simp] theorem State.eventStart_inputs (s : State) (xs : List Input) : (s.eventStart xs).inputs = xs := rfl

/-- A trace line `RX b` is the event its byte is in the mode of the state. -/
theorem step_rx (hin : s.inputs = Trace.rx b :: xs) : step s = exec (classify s.idle b) (s.eventStart xs) := by
  rw [step_cycle hin]
  exact runEvents_single _ _

/-- `STR`: what each byte keeps of `P`, the whole string keeps; `P` may speak of the bytes still to come. -/
theorem core_run_str (P : List Byte → State → Prop)
    (hbyte : ∀ b cs s xs, P (b :: cs) s → s.inputs = Trace.rx b :: xs →
      ∃ t, step s = .next t ∧ t.inputs = xs ∧ P cs t)
    (hs : P cs s) (hin : s.inputs = Trace.str cs ++ xs) :
    ∃ t, core.run cs.length s = .next t ∧ t.inputs = xs ∧ P [] t := by
  induction cs generalizing s with
  | nil => exact ⟨s, rfl, hin, hs⟩
  | cons b cs ih =>
    obtain ⟨u, hstep, hinputs, hu⟩ := hbyte b cs s _ hs hin
    obtain ⟨t, hrun, ht⟩ := ih hu hinputs
    exact ⟨t, by rwa [List.length_cons, core_run_succ hstep], ht⟩

/-- The configuration registers of `c`. -/
structure State.ConfiguredAs (c s : State) : Prop where
  stallWindow : s.stallWindow = c.stallWindow
  logEn : s.logEn = c.logEn

/-! Scanning -/

/-- Running in Idle, with the bytes `noise` still to come and no start marker among them. -/
structure State.Scanning (c : State) (noise : List Byte) (s : State) : Prop where
  run : s.run = true
  idle : s.idle = true
  noStart : ∀ b ∈ noise, b ≠ Config.startMarker
  config : c.ConfiguredAs s

theorem exec_skip (hrun : s.run = true) (hidle : s.idle = true) (hb : b ≠ Config.startMarker) :
    exec (classify s.idle b) s = .next (raiseCause .invalidLeadingByte s.stamp) := by
  rw [hidle, classify, if_pos rfl, if_neg hb]
  exact takeByte_happens _ _ _ hrun hidle

theorem exec_start (hrun : s.run = true) (hidle : s.idle = true) :
    exec (classify s.idle Config.startMarker) s = .next s.stamp.beginFrame := by
  rw [hidle]
  exact takeByte_happens _ _ _ hrun hidle

theorem State.Scanning.step_rx (hs : c.Scanning (b :: noise) s) (hin : s.inputs = Trace.rx b :: xs) :
    ∃ t, step s = .next t ∧ t.inputs = xs ∧ c.Scanning noise t := by
  obtain ⟨hb, hnoise⟩ := List.forall_mem_cons.mp hs.noStart
  refine ⟨_, (Machine.step_rx hin).trans (exec_skip (s := s.eventStart xs) hs.run hs.idle hb), by simp, ?_⟩
  exact ⟨by simp [hs.run], by simp [raiseCause_invalidLeadingByte, hs.idle], hnoise,
    by simp [hs.config.stallWindow], by simp [hs.config.logEn]⟩

/-! Collecting -/

/-- A byte that `RX.DATA` appends: neither the end marker nor above 127 (30_encoding.md R81). -/
def IsText (b : Byte) : Prop := b ≠ Config.endMarker ∧ ¬ Config.asciiMax < b

theorem exec_text (hrun : s.run = true) (hidle : s.idle = false) (hb : IsText b) :
    exec (classify s.idle b) s = .next (appendChar b s.stamp) := by
  rw [hidle, classify, if_neg Bool.false_ne_true, if_neg hb.1, if_neg hb.2]
  exact takeByte_happens _ _ _ hrun hidle

theorem exec_end (hrun : s.run = true) (hidle : s.idle = false) :
    exec (classify s.idle Config.endMarker) s = .next (closeFrame s.stamp) := by
  rw [hidle]
  exact takeByte_happens _ _ _ hrun hidle

/-- Collecting the frame `p`: the characters stored, followed by the text characters `cs` still to come, are the
twelve of `p`. -/
structure State.Collecting (c : State) (p : Payload) (cs : List Byte) (s : State) : Prop where
  run : s.run = true
  collecting : s.idle = false
  text : ∀ b ∈ cs, IsText b
  count : s.len.toNat + cs.length = 12
  stored : s.buf.toList.take s.len.toNat ++ cs = p.toList
  config : c.ConfiguredAs s

/-- The append stores its character right after those stored before. -/
theorem take_appendChar (h : s.len.toNat < 12) :
    (appendChar b s).len.toNat = s.len.toNat + 1 ∧
      (appendChar b s).buf.toList.take (s.len.toNat + 1) = s.buf.toList.take s.len.toNat ++ [b] := by
  have hlt : s.len < Config.payloadLen := h
  rw [appendChar_len, appendChar_buf, if_pos hlt, if_pos hlt]
  constructor
  · bv_omega
  · simp [List.take_succ_eq_append_getElem, List.take_set_of_le, h]

theorem State.Collecting.step_rx (hs : c.Collecting p (b :: cs) s) (hin : s.inputs = Trace.rx b :: xs) :
    ∃ t, step s = .next t ∧ t.inputs = xs ∧ c.Collecting p cs t := by
  obtain ⟨hb, htext⟩ := List.forall_mem_cons.mp hs.text
  have hcount := hs.count
  rw [List.length_cons] at hcount
  obtain ⟨hlen, htake⟩ := take_appendChar (s := (s.eventStart xs).stamp) (b := b) (by simp; omega)
  refine ⟨_, (Machine.step_rx hin).trans (exec_text (s := s.eventStart xs) hs.run hs.collecting hb), by simp, ?_⟩
  refine ⟨by simp [hs.run], by simp [hs.collecting], htext, ?_, ?_, by simp [hs.config.stallWindow],
    by simp [hs.config.logEn]⟩
  · rw [hlen]
    simp
    omega
  · rw [hlen, htake, List.append_assoc]
    exact hs.stored

/-- All twelve characters collected: the buffer is the frame. -/
theorem State.Collecting.complete (hs : c.Collecting p [] s) : s.len = Config.payloadLen ∧ s.buf = p := by
  have hlen : s.len.toNat = 12 := hs.count
  have hstored := hs.stored
  rw [hlen, List.append_nil, List.take_of_length_le (by simp)] at hstored
  exact ⟨BitVec.eq_of_toNat_eq hlen, Vector.toList_inj.mp hstored⟩

/-! A whole frame -/

theorem closeFrame_emits (hlen : s.len = Config.payloadLen) (htag : validTag s.buf = some v) :
    closeFrame s = emit v s := by
  simp [closeFrame, State.readFrame, hlen, htag]

theorem State.Scanning.step_start (hs : c.Scanning [] s) (htext : ∀ b ∈ p.toList, IsText b)
    (hin : s.inputs = Trace.rx Config.startMarker :: xs) :
    ∃ t, step s = .next t ∧ t.inputs = xs ∧ c.Collecting p p.toList t :=
  ⟨_, (Machine.step_rx hin).trans (exec_start (s := s.eventStart xs) hs.run hs.idle), rfl,
    hs.run, rfl, htext, by simp, by simp, hs.config.stallWindow, hs.config.logEn⟩

/-- The outcome of a frame with tag `v`: the invocation has ended and the tag is shown. -/
structure State.Emitted (c : State) (v : TagBits) (s : State) : Prop where
  run : s.run = false
  idle : s.idle = true
  len : s.len = 0#4
  tagv : s.tagv = true
  done : s.done = true
  tagBin : s.tagBin = v
  tagAscii : s.tagAscii = dec10 v
  config : c.ConfiguredAs s

theorem State.Collecting.step_end (hs : c.Collecting p [] s) (htag : validTag p = some v)
    (hin : s.inputs = Trace.rx Config.endMarker :: xs) :
    ∃ t, step s = .next t ∧ t.inputs = xs ∧ c.Emitted v t := by
  obtain ⟨hlen, rfl⟩ := hs.complete
  have hclose := closeFrame_emits (s := (s.eventStart xs).stamp) hlen htag
  refine ⟨_, (Machine.step_rx hin).trans (exec_end (s := s.eventStart xs) hs.run hs.collecting), ?_⟩
  rw [hclose]
  exact ⟨rfl, rfl, rfl, rfl, rfl, rfl, rfl, rfl, hs.config.stallWindow, hs.config.logEn⟩

/-- Noise and then the frame of a text payload with tag `v` emit `v`, from every running state in Idle. -/
theorem core_run_noise_frame (hrun : s.run = true) (hidle : s.idle = true)
    (hnoise : ∀ b ∈ noise, b ≠ Config.startMarker) (htext : ∀ b ∈ p.toList, IsText b) (htag : validTag p = some v)
    (hin : s.inputs = Trace.str noise ++ Trace.frame p.toList ++ rest) :
    ∃ t, core.run (noise.length + 14) s = .next t ∧ t.inputs = rest ∧ s.Emitted v t := by
  have hframe : s.inputs = Trace.str noise ++
      (Trace.rx Config.startMarker :: (Trace.str p.toList ++ (Trace.rx Config.endMarker :: rest))) := by
    simpa [Trace.frame] using hin
  obtain ⟨s₁, hskip, hin₁, hs₁⟩ := core_run_str s.Scanning (fun _ _ _ _ => State.Scanning.step_rx)
    ⟨hrun, hidle, hnoise, rfl, rfl⟩ hframe
  obtain ⟨s₂, hstart, hin₂, hs₂⟩ := hs₁.step_start htext hin₁
  obtain ⟨s₃, hcollect, hin₃, hs₃⟩ :=
    core_run_str (s.Collecting p) (fun _ _ _ _ => State.Collecting.step_rx) hs₂ hin₂
  obtain ⟨t, hend, hin₄, ht⟩ := hs₃.step_end htag hin₃
  rw [Vector.length_toList] at hcollect
  refine ⟨t, ?_, hin₄, ht⟩
  calc core.run (noise.length + 14) s
      = core.run (12 + 1 + 1) s₁ := core_run_add hskip 14
    _ = core.run (12 + 1) s₂ := core_run_succ hstart _
    _ = core.run 1 s₃ := core_run_add hcollect 1
    _ = .next t := core_run_succ hend 0

end Sys2Proof.Machine

/-! The frame of ten data characters: its checksum characters make it valid, and its tag is read off the data
(42_checksum_validator.md R126 to R131, 30_encoding.md R95). -/

namespace Sys2Proof.Machine

variable {d : Vector Byte 10} {v : Fin 10 → Nibble} {c : Byte} {n : Nibble}

/-- The character `hexChar` writes for a nibble is read back as their value. -/
theorem hexval_hexChar (n : Nibble) : hexval (hexChar n) = some n := by
  revert n
  decide

/-- A hex character is neither the end marker nor above 127. -/
theorem isText_of_hexval (h : hexval c = some n) : IsText c := by
  have htext : ∀ c : Byte, hexval c ≠ none → c ≠ Config.endMarker ∧ ¬ Config.asciiMax < c := by decide
  exact htext c (by simp [h])

/-- Ten data characters followed by two check characters. -/
def withCheck (d : Vector Byte 10) (w : Vector Byte 2) : Payload := d ++ w

theorem withCheck_data (d : Vector Byte 10) (w : Vector Byte 2) (k : Fin 10) : (withCheck d w)[k.val] = d[k.val] :=
  Vector.getElem_append_left k.isLt

theorem withCheck_check (d : Vector Byte 10) (w : Vector Byte 2) (k : Fin 2) :
    (withCheck d w)[10 + k.val] = w[k.val] :=
  (Vector.getElem_append_right (by omega) (Nat.le_add_right 10 k.val)).trans (by simp only [Nat.add_sub_cancel_left])

/-- The byte that data characters `2i` and `2i + 1` of the values `v` write, the first the high nibble. -/
def dataPair (v : Fin 10 → Nibble) (i : Fin 5) : Byte := v ⟨2 * i.val, by omega⟩ ++ v ⟨2 * i.val + 1, by omega⟩

/-- The XOR of the five data pairs. -/
def dataFold (v : Fin 10 → Nibble) : Byte :=
  dataPair v 0 ^^^ dataPair v 1 ^^^ dataPair v 2 ^^^ dataPair v 3 ^^^ dataPair v 4

/-- The tag number of the data: pairs 1 to 4. -/
def dataTag (v : Fin 10 → Nibble) : TagBits := dataPair v 1 ++ dataPair v 2 ++ dataPair v 3 ++ dataPair v 4

/-- The check characters do not enter pairs 0 to 4. -/
theorem pair_withCheck (hd : ∀ k : Fin 10, hexval d[k.val] = some (v k)) (w : Vector Byte 2) (i : Fin 5) :
    pair (withCheck d w) (i.castLE (by decide)) = some (dataPair v i) := by
  refine hexPair_some ?_ ?_
  · exact (congrArg hexval (withCheck_data d w ⟨2 * i.val, by omega⟩)).trans (hd _)
  · exact (congrArg hexval (withCheck_data d w ⟨2 * i.val + 1, by omega⟩)).trans (hd _)

theorem xorfold_withCheck (hd : ∀ k : Fin 10, hexval d[k.val] = some (v k)) (w : Vector Byte 2) :
    xorfold (withCheck d w) = some (dataFold v) := by
  have h0 : pair (withCheck d w) 0 = _ := pair_withCheck hd w 0
  have h1 : pair (withCheck d w) 1 = _ := pair_withCheck hd w 1
  have h2 : pair (withCheck d w) 2 = _ := pair_withCheck hd w 2
  have h3 : pair (withCheck d w) 3 = _ := pair_withCheck hd w 3
  have h4 : pair (withCheck d w) 4 = _ := pair_withCheck hd w 4
  simp only [xorfold, h0, h1, h2, h3, h4, dataFold]

theorem tagValue_withCheck (hd : ∀ k : Fin 10, hexval d[k.val] = some (v k)) (w : Vector Byte 2) :
    tagValue (withCheck d w) = some (dataTag v) := by
  have h1 : pair (withCheck d w) 1 = _ := pair_withCheck hd w 1
  have h2 : pair (withCheck d w) 2 = _ := pair_withCheck hd w 2
  have h3 : pair (withCheck d w) 3 = _ := pair_withCheck hd w 3
  have h4 : pair (withCheck d w) 4 = _ := pair_withCheck hd w 4
  simp only [tagValue, h1, h2, h3, h4, dataTag]

/-- Appending bits is placing digits. -/
theorem toNat_append_eq_add {m n : Nat} (x : BitVec m) (y : BitVec n) :
    (x ++ y).toNat = x.toNat * 2 ^ n + y.toNat := by
  rw [BitVec.toNat_append, ← Nat.shiftLeft_add_eq_or_of_lt y.isLt, Nat.shiftLeft_eq]

/-- The tag number is the hexadecimal number of data characters 2 to 9 (42_checksum_validator.md R131). -/
theorem dataTag_toNat (v : Fin 10 → Nibble) :
    (dataTag v).toNat = ∑ k : Fin 8, (v ⟨k.val + 2, by omega⟩).toNat * 16 ^ (7 - k.val) := by
  simp only [dataTag, dataPair, toNat_append_eq_add, Fin.sum_univ_eight]
  simp
  ring

/-- The two characters that write a byte. -/
def byteChars (f : Byte) : Vector Byte 2 := #v[hexChar (f.extractLsb' 4 4), hexChar (f.extractLsb' 0 4)]

theorem hexPair_byteChars (f : Byte) : hexPair (byteChars f)[0] (byteChars f)[1] = some f :=
  (hexPair_some (hexval_hexChar _) (hexval_hexChar _)).trans
    (congrArg some BitVec.extractLsb'_append_extractLsb')

/-- The payload of a good frame: the data and the characters of its fold. -/
def goodPayload (d : Vector Byte 10) (v : Fin 10 → Nibble) : Payload := withCheck d (byteChars (dataFold v))

theorem goodFrame_eq (hd : ∀ k : Fin 10, hexval d[k.val] = some (v k)) :
    Trace.goodFrame d = some (Trace.frame (goodPayload d v).toList) := by
  have hfold : xorfold (d ++ (Vector.replicate 2 0x30#8 : Vector Byte 2)) = some (dataFold v) :=
    xorfold_withCheck hd _
  have hlist : (goodPayload d v).toList = d.toList ++ (byteChars (dataFold v)).toList := Vector.toList_append
  simp only [Trace.goodFrame, Trace.checkChars, hfold, hlist]
  rfl

/-- Every character of a good frame is a hex character. -/
theorem goodPayload_hex (hd : ∀ k : Fin 10, hexval d[k.val] = some (v k)) :
    ∀ b ∈ goodPayload d v, ∃ n, hexval b = some n := by
  intro b hb
  rcases Vector.mem_append.mp hb with hdata | hcheck
  · obtain ⟨k, hk, rfl⟩ := Vector.mem_iff_getElem.mp hdata
    exact ⟨_, hd ⟨k, hk⟩⟩
  · obtain rfl | rfl : b = _ ∨ b = _ := by simpa [byteChars] using hcheck
    · exact ⟨_, hexval_hexChar _⟩
    · exact ⟨_, hexval_hexChar _⟩

theorem goodPayload_isText (hd : ∀ k : Fin 10, hexval d[k.val] = some (v k)) :
    ∀ b ∈ (goodPayload d v).toList, IsText b := by
  intro b hb
  obtain ⟨n, hn⟩ := goodPayload_hex hd b (Vector.mem_toList_iff.mp hb)
  exact isText_of_hexval hn

/-- The check field of a good frame is the fold of its data, so the frame validates (R129). -/
theorem checksumValid_goodPayload (hd : ∀ k : Fin 10, hexval d[k.val] = some (v k)) :
    checksumValid (goodPayload d v) = true := by
  have hhex : allHex (goodPayload d v) = true := by
    refine (allHex_iff _).mpr fun i => ?_
    obtain ⟨n, hn⟩ := goodPayload_hex hd _ (Vector.getElem_mem i.isLt)
    simp [hn]
  have hfold : xorfold (goodPayload d v) = some (dataFold v) := xorfold_withCheck hd _
  have hfield : pair (goodPayload d v) 5 = some (dataFold v) := by
    have h10 : (goodPayload d v)[10] = (byteChars (dataFold v))[0] := withCheck_check d _ 0
    have h11 : (goodPayload d v)[11] = (byteChars (dataFold v))[1] := withCheck_check d _ 1
    exact (congrArg₂ hexPair h10 h11).trans (hexPair_byteChars _)
  simp [checksumValid, hhex, hfold, hfield]

theorem validTag_goodPayload (hd : ∀ k : Fin 10, hexval d[k.val] = some (v k)) :
    validTag (goodPayload d v) = some (dataTag v) :=
  (validTag_eq_some _ _).mpr ⟨checksumValid_goodPayload hd, tagValue_withCheck hd _⟩

/-- Settles O54: the good frame is the frame of `goodPayload`, which is text and whose tag is `dataTag`. -/
theorem goodFrameEmitsItsTag : Obligations.GoodFrameEmitsItsTag := by
  intro s noise d v rest hrun hidle hnoise hd
  refine ⟨_, goodFrame_eq hd, by simp [Trace.frame, Trace.str], fun hin => ?_⟩
  obtain ⟨t, ht, hinputs, he⟩ :=
    core_run_noise_frame hrun hidle hnoise (goodPayload_isText hd) (validTag_goodPayload hd) hin
  refine ⟨t, ht, he.run, he.idle, he.len, he.tagv, he.done, ?number, ?text, he.config.stallWindow, he.config.logEn,
    hinputs⟩
  case number => rw [he.tagBin, dataTag_toNat]
  case text => rw [he.tagAscii, he.tagBin]

end Sys2Proof.Machine

/-! Every word by its kind (30_encoding.md R83, R84): the event read from it, and the word written back. -/

namespace Sys2Proof

variable {w : EventWord} {k : BitVec 3}

/-- The event of a word of kind `k`: the fields its format names, and nothing else of the word. -/
def eventOfKind (k : BitVec 3) (w : EventWord) : Instr :=
  if k = 0b000#3 then classify (!modeBit w) (byteField w)
  else if k = 0b001#3 then .nodata
  else if k = 0b010#3 then .tick
  else if k = 0b011#3 then .invoke
  else if k = 0b100#3 then .cfgwr (addrField w) (dataField w)
  else if k = 0b101#3 then .cfgrd (addrField w)
  else if k = 0b110#3 then .wake
  else .reset

theorem kind_cases (k : BitVec 3) :
    k = 0b000#3 ∨ k = 0b001#3 ∨ k = 0b010#3 ∨ k = 0b011#3 ∨ k = 0b100#3 ∨ k = 0b101#3 ∨ k = 0b110#3 ∨
      k = 0b111#3 := by
  revert k
  decide

theorem decode_of_kind (h : w.extractLsb' 21 3 = k) : decode w = eventOfKind k w := by
  obtain ⟨h23, h22, h21⟩ := kindBits_eq h
  rw [decode, h23, h22, h21]
  rcases kind_cases k with rfl | rfl | rfl | rfl | rfl | rfl | rfl | rfl <;> rfl

/-- The class of a byte is written back as the byte, in its mode. -/
theorem encode_classify (idle : Bool) (b : Byte) : encode (classify idle b) = formatB (!idle) b := by
  unfold classify
  split_ifs with hidle hstart hend <;> simp_all [encode]

/-- The bits that some format without data names are the kind, the mode bit and the byte. -/
theorem and_namedBits (w : EventWord) :
    w &&& 0xE001FF#24 = formatN (w.extractLsb' 21 3) ||| formatB (modeBit w) (byteField w) := by
  refine BitVec.eq_of_getLsbD_eq fun i hi => ?_
  interval_cases i <;> simp [formatN, formatB, modeBit, byteField]

/-- Format B names bit 8 and bits 7:0. -/
theorem formatB_fields (h : w.extractLsb' 21 3 = 0b000#3) :
    formatB (modeBit w) (byteField w) = w &&& 0xE001FF#24 := by
  have hkind : formatN 0b000#3 = 0#24 := rfl
  rw [and_namedBits, h, hkind, BitVec.zero_or]

/-- Format N names no bit below the kind. -/
theorem formatN_kind (h : w.extractLsb' 21 3 = k) : formatN k = w &&& 0xE00000#24 := by
  subst h
  refine BitVec.eq_of_getLsbD_eq fun i hi => ?_
  interval_cases i <;> simp [formatN]

/-- Format C names bits 17:16 and, for a write, bits 15:0. -/
theorem formatC_fields (h : w.extractLsb' 21 3 = k) :
    formatC k (addrField w) (dataField w) = w &&& 0xE3FFFF#24 := by
  subst h
  refine BitVec.eq_of_getLsbD_eq fun i hi => ?_
  interval_cases i <;> simp [formatC, addrField, dataField]

theorem formatC_addr (h : w.extractLsb' 21 3 = k) : formatC k (addrField w) 0#16 = w &&& 0xE30000#24 := by
  subst h
  refine BitVec.eq_of_getLsbD_eq fun i hi => ?_
  interval_cases i <;> simp [formatC, addrField]

/-- Settles O12: the event of each kind, and the word its format writes. -/
theorem decoderReadsNamedBitsOnly : Obligations.DecoderReadsNamedBitsOnly := by
  intro w
  refine ⟨fun h => ?byte, fun h => ?_, fun h => ?_, fun h => ?_, fun h => ?write, fun h => ?read, fun h => ?_,
    fun h => ?_⟩
  case byte =>
    refine ⟨decode_of_kind h, ?_⟩
    rw [← formatB_fields h, decode_of_kind h]
    exact (encode_classify _ _).trans (by rw [Bool.not_not])
  case write => exact ⟨decode_of_kind h, by rw [decode_of_kind h, ← formatC_fields h]; rfl⟩
  case read => exact ⟨decode_of_kind h, by rw [decode_of_kind h, ← formatC_addr h]; rfl⟩
  all_goals exact ⟨decode_of_kind h, by rw [decode_of_kind h, ← formatN_kind h]; rfl⟩

/-! The class of a byte (30_encoding.md R81), and the operands of decoded events. -/

theorem asciiMax_lt_iff_toNat (b : Byte) : Config.asciiMax < b ↔ 0x80 ≤ b.toNat := Machine.asciiMax_lt_iff b

/-- Settles O14: the tests of `classify` as comparisons of numbers. -/
theorem byteClassOfEveryByte : Obligations.ByteClassOfEveryByte := by
  intro b
  have hstart : b = Config.startMarker ↔ b.toNat = 0x02 := BitVec.toNat_inj.symm
  have hend : b = Config.endMarker ↔ b.toNat = 0x03 := BitVec.toNat_inj.symm
  refine ⟨fun h => ?start, fun h => ?skip, fun h => ?ends, fun h => ?high, fun hlow hne => ?data⟩
  case start => simp [classify, hstart, h]
  case skip => simp [classify, hstart, h]
  case ends => simp [classify, hend, h]
  case high =>
    have hne : b.toNat ≠ 0x03 := by omega
    simp [classify, hend, asciiMax_lt_iff_toNat, hne, h]
  case data =>
    have hnot : ¬ 0x80 ≤ b.toNat := by omega
    simp [classify, hend, asciiMax_lt_iff_toNat, hne, hnot]

/-- A class admits every byte it is given to. -/
theorem classify_wf (idle : Bool) (b : Byte) : (classify idle b).wf = true := by
  unfold classify
  split_ifs with hidle hstart hend hhigh
  · rfl
  · simpa [Instr.wf] using hstart
  · rfl
  · simpa [Instr.wf] using hhigh
  · simpa [Instr.wf, hend] using hhigh

theorem decode_wf (w : EventWord) : (decode w).wf = true := by
  rw [decode_of_kind rfl]
  unfold eventOfKind
  split_ifs
  · exact classify_wf _ _
  all_goals rfl

theorem decodeTableWord_of_lt {nbits n : Nat} (h : n % 2 ^ nbits < 2 ^ 24) :
    decodeTableWord nbits n = some (decode (BitVec.ofNat 24 (n % 2 ^ nbits))) := by
  simp only [decodeTableWord, decodeNat, if_pos h]

theorem decodeTableWord_of_ge {nbits n : Nat} (h : 2 ^ 24 ≤ n % 2 ^ nbits) : decodeTableWord nbits n = none := by
  simp only [decodeTableWord, decodeNat, if_neg (Nat.not_lt.mpr h)]

/-- Settles O15: `decode_wf`, and the one test of `decodeNat`. -/
theorem everyWordDecodesWellFormed : Obligations.EveryWordDecodesWellFormed := by
  refine ⟨decode_wf, fun w => ?word, fun n hlong hn => ?long⟩
  case word =>
    have hmod : w.toNat % 2 ^ 24 = w.toNat := Nat.mod_eq_of_lt w.isLt
    rw [decodeTableWord_of_lt (by omega), hmod, BitVec.ofNat_toNat, BitVec.setWidth_eq]
  case long => exact decodeTableWord_of_ge (by rwa [Nat.mod_eq_of_lt hn])

/-! The opcode table (30_encoding.md R85, R86). -/

/-- A format N or C row compares the kind only. -/
@[simp] theorem fits_kind_iff {bits : EventWord} (hbits : bits &&& 0xE00000#24 = bits) :
    w &&& 0xE00000#24 = bits ↔ w.extractLsb' 21 3 = bits.extractLsb' 21 3 := by
  constructor
  · rintro rfl
    rw [BitVec.extractLsb'_and]
    exact BitVec.and_allOnes.symm
  · intro hkind
    rw [← formatN_kind hkind, formatN_kind rfl, hbits]

/-- A format B row compares the kind, the mode bit and the byte under its mask. -/
theorem fits_byteRow_iff {mask bits : EventWord} (hmask : mask &&& 0xE001FF#24 = mask)
    (hkindMask : mask.extractLsb' 21 3 = BitVec.allOnes 3) (hmodeMask : modeBit mask = true)
    (hbits : bits &&& 0xE001FF#24 = bits) :
    w &&& mask = bits ↔ w.extractLsb' 21 3 = bits.extractLsb' 21 3 ∧ modeBit w = modeBit bits ∧
      byteField w &&& byteField mask = byteField bits := by
  have hkind : (w &&& mask).extractLsb' 21 3 = w.extractLsb' 21 3 := by
    rw [BitVec.extractLsb'_and, hkindMask, BitVec.and_allOnes]
  have hmode : modeBit (w &&& mask) = modeBit w := by
    rw [modeBit, BitVec.getLsbD_and, ← modeBit, ← modeBit, hmodeMask, Bool.and_true]
  have hbyte : byteField (w &&& mask) = byteField w &&& byteField mask := BitVec.extractLsb'_and
  rw [← hkind, ← hmode, ← hbyte]
  constructor
  · rintro rfl
    exact ⟨rfl, rfl, rfl⟩
  · rintro ⟨ekind, emode, ebyte⟩
    rw [← hbits, and_namedBits bits, ← ekind, ← emode, ← ebyte, ← and_namedBits, BitVec.and_assoc, hmask]

@[simp] theorem fits_rxStart_iff : w &&& 0xE001FF#24 = 0x000002#24 ↔
    w.extractLsb' 21 3 = 0b000#3 ∧ modeBit w = false ∧ byteField w = Config.startMarker := by
  have hmask : byteField 0xE001FF#24 = BitVec.allOnes 8 := rfl
  rw [fits_byteRow_iff rfl rfl rfl rfl, hmask, BitVec.and_allOnes]
  rfl

@[simp] theorem fits_rxSkip_iff : w &&& 0xE00100#24 = 0x000000#24 ↔ w.extractLsb' 21 3 = 0b000#3 ∧ modeBit w = false := by
  rw [fits_byteRow_iff rfl rfl rfl rfl]
  exact and_congr_right fun _ => and_iff_left BitVec.and_zero

@[simp] theorem fits_rxEnd_iff : w &&& 0xE001FF#24 = 0x000103#24 ↔
    w.extractLsb' 21 3 = 0b000#3 ∧ modeBit w = true ∧ byteField w = Config.endMarker := by
  have hmask : byteField 0xE001FF#24 = BitVec.allOnes 8 := rfl
  rw [fits_byteRow_iff rfl rfl rfl rfl, hmask, BitVec.and_allOnes]
  rfl

/-- Bit 7 of a byte is what puts it above 127. -/
theorem and_bit7 (b : Byte) : b &&& 0x80#8 = if Config.asciiMax < b then 0x80#8 else 0x00#8 := by
  revert b
  decide

@[simp] theorem fits_rxNonascii_iff : w &&& 0xE00180#24 = 0x000180#24 ↔
    w.extractLsb' 21 3 = 0b000#3 ∧ modeBit w = true ∧ Config.asciiMax < byteField w := by
  have hbit : byteField w &&& 0x80#8 = 0x80#8 ↔ Config.asciiMax < byteField w := by simp [and_bit7]
  rw [fits_byteRow_iff rfl rfl rfl rfl, ← hbit]
  rfl

@[simp] theorem fits_rxData_iff : w &&& 0xE00180#24 = 0x000100#24 ↔
    w.extractLsb' 21 3 = 0b000#3 ∧ modeBit w = true ∧ ¬ Config.asciiMax < byteField w := by
  have hbit : byteField w &&& 0x80#8 = 0x00#8 ↔ ¬ Config.asciiMax < byteField w := by simp [and_bit7]
  rw [fits_byteRow_iff rfl rfl rfl rfl, ← hbit]
  rfl

/-- The mnemonic of the first row that a word fits. -/
def firstMnemonic (w : EventWord) : Option String :=
  (opcodeTable.find? fun r => decide (w &&& r.mask = r.bits)).map OpcodeRow.mnemonic

/-- In format B the rows are tried in the order in which `classify` makes its tests. -/
theorem firstMnemonic_of_byte (hkind : w.extractLsb' 21 3 = 0b000#3) :
    firstMnemonic w = some (mnemonicOf (classify (!modeBit w) (byteField w))) := by
  unfold firstMnemonic opcodeTable classify
  cases hmode : modeBit w with
  | false => by_cases hstart : byteField w = Config.startMarker <;> simp [*, mnemonicOf]
  | true =>
    by_cases hend : byteField w = Config.endMarker
    · simp [*, mnemonicOf]
    · by_cases hhigh : Config.asciiMax < byteField w <;> simp [*, mnemonicOf]

/-- Outside format B exactly one row has the word's kind. -/
theorem firstMnemonic_of_kind (hkind : w.extractLsb' 21 3 = k) (hk : k ≠ 0b000#3) :
    firstMnemonic w = some (mnemonicOf (eventOfKind k w)) := by
  unfold firstMnemonic opcodeTable
  rcases kind_cases k with rfl | rfl | rfl | rfl | rfl | rfl | rfl | rfl
  · exact absurd rfl hk
  all_goals simp [hkind, eventOfKind, mnemonicOf]

/-- Words that fit two rows can exist only where the two rows agree under both masks. -/
theorem rows_overlap : ∀ r ∈ opcodeTable, ∀ q ∈ opcodeTable, r ≠ q → r.bits &&& q.mask = q.bits &&& r.mask →
    (r.mnemonic ∈ ["RX.START", "RX.SKIP"] ∧ q.mnemonic ∈ ["RX.START", "RX.SKIP"]) ∨
    (r.mnemonic ∈ ["RX.END", "RX.DATA"] ∧ q.mnemonic ∈ ["RX.END", "RX.DATA"]) := by
  decide

/-- Settles O13: the first row by the word's kind, and the overlaps by comparing the rows themselves. -/
theorem opcodeTableAgreesWithDecoder : Obligations.OpcodeTableAgreesWithDecoder := by
  refine ⟨rfl, fun w => ?first, fun w r q hr hq hne hfitr hfitq => ?overlap⟩
  case first =>
    rw [decode_of_kind rfl]
    by_cases hkind : w.extractLsb' 21 3 = 0b000#3
    · rw [hkind]
      exact firstMnemonic_of_byte hkind
    · exact firstMnemonic_of_kind rfl hkind
  case overlap =>
    refine rows_overlap r hr q hq hne ?_
    rw [← hfitr, ← hfitq, BitVec.and_assoc, BitVec.and_assoc, BitVec.and_comm q.mask]

end Sys2Proof

/-! The class of a byte, clause by clause (30_encoding.md R81), and the event of a format B word (R84). -/

namespace Sys2Proof

variable {w : EventWord} {b : Byte}

theorem classify_skip (hb : b ≠ 0x02#8) : classify true b = .rxSkip b := by
  obtain ⟨-, hskip, -, -, -⟩ := byteClassOfEveryByte b
  exact hskip fun h => hb (BitVec.eq_of_toNat_eq h)

theorem classify_nonAscii (hhigh : 0x80#8 ≤ b) : classify false b = .rxNonascii b := by
  obtain ⟨-, -, -, hnonAscii, -⟩ := byteClassOfEveryByte b
  exact hnonAscii hhigh

theorem classify_data (hlow : b ≤ 0x7F#8) (hb : b ≠ 0x03#8) : classify false b = .rxData b := by
  obtain ⟨-, -, -, -, hdata⟩ := byteClassOfEveryByte b
  exact hdata hlow fun h => hb (BitVec.eq_of_toNat_eq h)

theorem getLsbD_seven_iff (b : Byte) : b.getLsbD 7 = true ↔ 0x80#8 ≤ b := by
  revert b
  decide

/-- A format B word is read as the class of its byte in the mode that its bit 8 names. -/
theorem decode_byteWord {m : Bool} (hkind : w.extractLsb' 21 3 = 0b000#3) (hmode : w.getLsbD 8 = m) :
    decode w = classify (!m) (w.extractLsb' 0 8) := by
  subst hmode
  exact decode_of_kind hkind

/-- Bit 7 of a word is the bit that puts its byte above 127. -/
theorem byteOfWord_high_iff (w : EventWord) : w.getLsbD 7 = true ↔ 0x80#8 ≤ w.extractLsb' 0 8 := by
  rw [← getLsbD_seven_iff]
  simp

end Sys2Proof

/-! The events of the decode loop, one by one (41_frame_decoder.md R105 to R117): what each does where its guard holds,
and that it does nothing elsewhere. -/

namespace Sys2Proof.Machine

variable {i : Instr} {s t u : State} {b : Byte} {v : TagBits}

/-! `INVOKE` (R105, R106) -/

theorem exec_invoke_stopped (hrun : s.run = false) :
    exec .invoke s = .next { s.toIdle.stamp with run := true, tagv := false } := by
  simp [exec, execInvoke, hrun]

theorem exec_invoke_running (hrun : s.run = true) : exec .invoke s = .next s := by
  simp [exec, execInvoke, hrun]

theorem portLoop_eq_invoke_iff (p : Ports) (s : State) :
    portLoop p s = some .invoke ↔ p.invoke = true ∧ s.run = false := by
  unfold portLoop
  split_ifs with hinvoke <;> simp_all

/-- Settles O17: the running branch is excluded by the guard. -/
theorem invokeStartsInvocation : Obligations.InvokeStartsInvocation :=
  ⟨fun _ hrun => exec_invoke_stopped hrun, fun _ hkind => decode_of_kind hkind, portLoop_eq_invoke_iff⟩

/-- Settles O18: `exec_invoke_running`, and the ports ask for `run = 0`. -/
theorem invokeWhileRunningIsIgnored : Obligations.InvokeWhileRunningIsIgnored := by
  intro s hrun
  refine ⟨exec_invoke_running hrun, fun p hloop => ?_⟩
  obtain ⟨-, hstopped⟩ := (portLoop_eq_invoke_iff p s).mp hloop
  simp [hrun] at hstopped

/-! A byte event is taken in a running invocation and in its own mode only (R107, log 8). -/

theorem exec_classify_stopped (mode : Bool) (b : Byte) (hrun : s.run = false) :
    exec (classify mode b) s = .next s := by
  unfold classify
  split_ifs
  all_goals exact takeByte_stopped _ _ s hrun

/-- Every outcome of a byte leaves the time of that byte. -/
theorem ByteOutcome.lastRxTime_eq (h : ByteOutcome b s u) : u.lastRxTime = s.now := by
  cases h <;> simp [raiseCause_lastRxTime]

/-- Settles O19: `ByteOutcome.lastRxTime_eq`, `takeByte_stopped` and `portLoop_eq_rx_iff`. -/
theorem byteEventCommonPart : Obligations.ByteEventCommonPart := by
  refine ⟨fun b s hrun => ?taken, fun b s hrun => ?stopped, portLoop_eq_rx_iff⟩
  case taken =>
    obtain ⟨u, hexec, hu⟩ := exec_classify b hrun
    exact ⟨u, hexec, hu.lastRxTime_eq⟩
  case stopped =>
    have hstays (mode : Bool) (f : State → State) := takeByte_stopped mode f s hrun
    exact ⟨hstays _ _, hstays _ _, hstays _ _, hstays _ _, hstays _ _⟩

/-- Settles O20: `takeByte_otherMode`, for the events of Idle and for those of Collecting. -/
theorem byteEventOfOtherModeIsIgnored : Obligations.ByteEventOfOtherModeIsIgnored := by
  refine ⟨fun s b hidle => ?collecting, fun s b hidle => ?idle⟩
  case collecting =>
    have hstays (f : State → State) := takeByte_otherMode true f s hidle
    exact ⟨hstays _, hstays _⟩
  case idle =>
    have hstays (f : State → State) := takeByte_otherMode false f s hidle
    exact ⟨hstays _, hstays _, hstays _⟩

/-! The two events of Idle (R108, R109) -/

/-- Settles O21: `takeByte_happens`, and the byte of the word is the start marker. -/
theorem rxStartBeginsFrame : Obligations.RxStartBeginsFrame := by
  refine ⟨fun s hrun hidle => takeByte_happens _ _ _ hrun hidle, rfl, fun w hkind hmode hbyte => ?word⟩
  case word => exact (decode_byteWord hkind hmode).trans (by rw [hbyte]; rfl)

/-- Settles O22: `takeByte_happens` with cause 2, and every byte but the start marker is skipped. -/
theorem rxSkipDropsByte : Obligations.RxSkipDropsByte := by
  refine ⟨fun s b hrun hidle hb => ⟨?cls, takeByte_happens _ _ _ hrun hidle⟩, fun w hkind hmode hbyte => ?word⟩
  case cls => rw [hidle, classify_skip hb]
  case word => exact (decode_byteWord hkind hmode).trans (classify_skip hbyte)

/-! `RX.DATA` (R112) -/

theorem exec_rxData (b : Byte) (hrun : s.run = true) (hidle : s.idle = false) :
    exec (.rxData b) s = .next (appendChar b s.stamp) :=
  takeByte_happens _ _ _ hrun hidle

theorem appendChar_of_lt (h : s.len.toNat < 12) :
    appendChar b s = { s with buf := s.buf.set s.len.toNat b h, len := s.len + 1#4 } := by
  have hlt : s.len < Config.payloadLen := h
  have hslot : s.buf.setIfInBounds s.len.toNat b = s.buf.set s.len.toNat b h :=
    Vector.toArray_inj.mp (dif_pos (by simpa using h))
  rw [appendChar, if_pos hlt, State.writeSlot, hslot]

theorem appendChar_of_ge (h : 12 ≤ s.len.toNat) : appendChar b s = { s with len := 13#4 } := by
  have hge : ¬ s.len < Config.payloadLen := Nat.not_lt.mpr h
  rw [appendChar, if_neg hge]
  rfl

/-- Settles O23: the two branches of the append, on the stamped state. -/
theorem rxDataAppendsOrCounts : Obligations.RxDataAppendsOrCounts := by
  refine ⟨fun s b hrun hidle hlow hb => ⟨?cls, fun h => ?store, fun h => ?count⟩,
    fun w hkind hmode hlow hbyte => ?word⟩
  case cls => rw [hidle, classify_data hlow hb]
  case store => rw [exec_rxData b hrun hidle, appendChar_of_lt (s := s.stamp) h]; rfl
  case count => rw [exec_rxData b hrun hidle, appendChar_of_ge (s := s.stamp) h]; rfl
  case word =>
    have hnot : ¬ 0x80#8 ≤ w.extractLsb' 0 8 := mt (byteOfWord_high_iff w).mpr (Bool.eq_false_iff.mp hlow)
    exact (decode_byteWord hkind hmode).trans (classify_data (by bv_omega) hbyte)

/-! `RX.NONASCII` (R116) -/

theorem State.rxReady_of_reconnectReq (h : s.reconnectReq = true) : s.rxReady = false := by
  simp [State.rxReady, h]

/-- Settles O26: the discard path of cause 3; the pulse it gives holds back the next byte. -/
theorem nonAsciiDiscardsAndReconnects : Obligations.NonAsciiDiscardsAndReconnects := by
  refine ⟨fun s b hrun hidle hhigh => ⟨?cls, _, takeByte_happens _ _ _ hrun hidle, rfl, ?ready⟩,
    fun w hkind hmode hbit => ?word⟩
  case cls => rw [hidle, classify_nonAscii hhigh]
  case ready => exact State.rxReady_of_reconnectReq (raiseCause_reconnectReq _ _)
  case word => exact (decode_byteWord hkind hmode).trans (classify_nonAscii ((byteOfWord_high_iff w).mp hbit))

/-- Settles O27: cause 1 has no effect. -/
theorem nodataChangesNothing : Obligations.NodataChangesNothing :=
  ⟨fun s => congrArg Host.Outcome.next (raiseCause_transportTimeout s), fun _ hkind => decode_of_kind hkind,
    portLoop_eq_nodata_iff⟩

/-! `RX.END` (R114, R115): one equation per outcome -/

theorem exec_rxEnd (hrun : s.run = true) (hidle : s.idle = false) : exec .rxEnd s = .next (closeFrame s.stamp) :=
  takeByte_happens _ _ _ hrun hidle

theorem closeFrame_wrongLength (hlen : s.len ≠ Config.payloadLen) :
    closeFrame s = raiseCause .lengthMismatch s :=
  if_neg hlen

theorem closeFrame_invalid (hlen : s.len = Config.payloadLen) (hsum : checksumValid s.buf = false) :
    closeFrame s = raiseCause .checksumMismatch s := by
  simp [closeFrame, State.readFrame, hlen, (validTag_eq_none _).mpr hsum]

theorem exec_rxEnd_emits (hrun : s.run = true) (hidle : s.idle = false) (hlen : s.len = 12#4)
    (hsum : checksumValid s.buf = true) (htag : tagValue s.buf = some v) :
    exec .rxEnd s = .next (emit v s.stamp) := by
  rw [exec_rxEnd hrun hidle, closeFrame_emits (s := s.stamp) hlen ((validTag_eq_some _ _).mpr ⟨hsum, htag⟩)]

/-- Settles O24: the outcomes of `closeFrame` on the stamped state; a valid payload has a tag value. -/
theorem rxEndOutcomes : Obligations.RxEndOutcomes := by
  refine ⟨fun s hrun hidle hlen => ?wrongLength, fun s hrun hidle hlen hsum => ?invalid,
    fun s hrun hidle hlen hsum => ?emits, fun w hkind hmode hbyte => ?word⟩
  case wrongLength => rw [exec_rxEnd hrun hidle, closeFrame_wrongLength (s := s.stamp) hlen]; rfl
  case invalid => rw [exec_rxEnd hrun hidle, closeFrame_invalid (s := s.stamp) hlen hsum]; rfl
  case emits =>
    obtain ⟨t, htag⟩ := tagValue_some_of_allHex s.buf (allHex_of_checksumValid s.buf hsum)
    exact ⟨t, htag, exec_rxEnd_emits hrun hidle hlen hsum htag⟩
  case word => exact (decode_byteWord hkind hmode).trans (by rw [hbyte]; rfl)

/-! Once the invocation has ended, no byte and no check of the watchdog acts (R115). -/

theorem State.rxReady_of_stopped (hrun : s.run = false) : s.rxReady = false := by
  simp [State.rxReady, hrun]

theorem exec_wake_stopped (hrun : s.run = false) : exec .wake s = .next s := by
  simp [exec, execWake, State.stall, hrun]

/-- Settles O25: the state after Emit has `run = 0`, whatever the time becomes. -/
theorem emitEndsTheInvocation : Obligations.EmitEndsTheInvocation := by
  intro s v hrun hidle hlen hsum htag
  have hstopped : (emit v s.stamp).run = false := emit_run v s.stamp
  exact ⟨emit v s.stamp, exec_rxEnd_emits hrun hidle hlen hsum htag, rfl, State.rxReady_of_stopped hstopped,
    fun _ => exec_wake_stopped hstopped, fun b mode => exec_classify_stopped mode b hstopped⟩

/-! `run` (R111) -/

/-- Of all outcomes of an event, only Emit and `RESET` end an invocation. -/
theorem EventOutcome.run_falls (h : EventOutcome s i t) (hrun : s.run = true) (hstop : t.run = false) :
    i = .reset ∨ (i = .rxEnd ∧ s.idle = false ∧ s.len = 12#4 ∧ checksumValid s.buf = true) := by
  cases h with
  | resets => exact .inl rfl
  | emits v _ hidle hlen htag => exact .inr ⟨rfl, hidle, hlen, ((validTag_eq_some _ _).mp htag).1⟩
  | _ => simp [hrun] at hstop

/-- Settles O34: `EventOutcome.run_falls`, and the fields no cause writes. -/
theorem runFallsOnlyByEmitOrReset : Obligations.RunFallsOnlyByEmitOrReset :=
  ⟨fun _ _ _ hexec => (exec_outcome hexec).run_falls,
    fun k s => ⟨raiseCause_run k s, raiseCause_done k s, raiseCause_tagv k s, raiseCause_tagBin k s,
      raiseCause_tagAscii k s⟩⟩

end Sys2Proof.Machine

/-! When the functions of the checksum validator have a value and which value it is (42_checksum_validator.md R125 to
R131), beside the laws of `hexPair`. -/

namespace Sys2Proof.Machine

variable {p : Payload} {a b c d e : Byte}

/-! `hexval`, `hexPair` -/

theorem hexPair_toNat (h l : Nibble) : (h ++ l : Byte).toNat = 16 * h.toNat + l.toNat := by
  rw [toNat_append_eq_add]
  omega

/-- The table of R125, read as numbers: within each of the three ranges the difference fits in four bits. -/
theorem hexval_toNat (c : Byte) : (hexval c).map BitVec.toNat =
    if 0x30 ≤ c.toNat ∧ c.toNat ≤ 0x39 then some (c.toNat - 0x30)
    else if 0x41 ≤ c.toNat ∧ c.toNat ≤ 0x46 then some (c.toNat - 0x41 + 10)
    else if 0x61 ≤ c.toNat ∧ c.toNat ≤ 0x66 then some (c.toNat - 0x61 + 10)
    else none := by
  simp only [hexval, BitVec.le_def, BitVec.toNat_ofNat]
  split_ifs
  case neg => rfl
  all_goals
    simp only [Option.map_some, BitVec.toNat_setWidth, BitVec.toNat_add, BitVec.toNat_sub, BitVec.toNat_ofNat,
      Option.some.injEq]
    omega

theorem ishex_iff (c : Byte) : ishex c = true ↔ hexval c ≠ none := Option.isSome_iff_ne_none

/-! `pair`, `xorfold`, `tagValue` -/

theorem pair_eq_none (p : Payload) (i : Fin 6) :
    pair p i = none ↔ hexval p[2 * i.val] = none ∨ hexval p[2 * i.val + 1] = none :=
  hexPair_eq_none _ _

theorem xorfold_some (h0 : pair p 0 = some a) (h1 : pair p 1 = some b) (h2 : pair p 2 = some c)
    (h3 : pair p 3 = some d) (h4 : pair p 4 = some e) : xorfold p = some (a ^^^ b ^^^ c ^^^ d ^^^ e) := by
  simp only [xorfold, h0, h1, h2, h3, h4]

theorem xorfold_eq_none (p : Payload) :
    xorfold p = none ↔
      pair p 0 = none ∨ pair p 1 = none ∨ pair p 2 = none ∨ pair p 3 = none ∨ pair p 4 = none := by
  constructor
  · intro hnone
    by_contra! hall
    simp only [Option.ne_none_iff_exists'] at hall
    obtain ⟨⟨a, h0⟩, ⟨b, h1⟩, ⟨c, h2⟩, ⟨d, h3⟩, ⟨e, h4⟩⟩ := hall
    simp [xorfold_some h0 h1 h2 h3 h4] at hnone
  · rintro (h | h | h | h | h) <;> simp [xorfold, h]

theorem tagValue_some (h1 : pair p 1 = some a) (h2 : pair p 2 = some b) (h3 : pair p 3 = some c)
    (h4 : pair p 4 = some d) : tagValue p = some (a ++ b ++ c ++ d) := by
  simp only [tagValue, h1, h2, h3, h4]

theorem tagValue_eq_none (p : Payload) :
    tagValue p = none ↔ pair p 1 = none ∨ pair p 2 = none ∨ pair p 3 = none ∨ pair p 4 = none := by
  constructor
  · intro hnone
    by_contra! hall
    simp only [Option.ne_none_iff_exists'] at hall
    obtain ⟨⟨a, h1⟩, ⟨b, h2⟩, ⟨c, h3⟩, ⟨d, h4⟩⟩ := hall
    simp [tagValue_some h1 h2 h3 h4] at hnone
  · rintro (h | h | h | h) <;> simp [tagValue, h]

/-! `checksumValid` -/

/-- The verdict is the two tests of R129: all characters hex, and the fold equal to the field. -/
theorem checksumValid_iff (p : Payload) : checksumValid p = true ↔ allHex p = true ∧ xorfold p = pair p 5 := by
  simp only [checksumValid, Bool.and_eq_true, beq_iff_eq]

theorem checksumValid_of_nonHex {i : Fin 12} (h : hexval p[i.val] = none) : checksumValid p = false :=
  Bool.eq_false_iff.mpr fun hvalid => (allHex_iff p).mp (allHex_of_checksumValid p hvalid) i h

/-- Settles O4: `checksumValid_iff`; in an all-hex payload the field has a value, so equality is equality of bytes. -/
theorem checksumValidExactlyWhenFoldMatches : Obligations.ChecksumValidExactlyWhenFoldMatches := by
  intro p
  rw [checksumValid_iff, ← allHex_iff]
  refine and_congr_right fun hhex => ⟨fun hfold => ?_, fun ⟨f, hfold, hfield⟩ => hfold.trans hfield.symm⟩
  obtain ⟨f, hfield⟩ := pair_some_of_allHex p hhex 5
  exact ⟨f, hfold.trans hfield, hfield⟩

/-- Settles O5: a payload off hex does not validate, which is the checksum outcome of `RX.END`. -/
theorem nonHexFrameIsDiscarded : Obligations.NonHexFrameIsDiscarded := by
  obtain ⟨-, hmismatch, -, -⟩ := rxEndOutcomes
  exact ⟨fun _ _ hoff => checksumValid_of_nonHex hoff,
    fun s _ hrun hidle hlen hoff => hmismatch s hrun hidle hlen (checksumValid_of_nonHex hoff)⟩

/-- Settles O6: the four pairs are those of the digits, and the number of their join is `dataTag_toNat` of the data
with any two characters before them. -/
theorem tagValueIsPositionsTwoToNine : Obligations.TagValueIsPositionsTwoToNine := by
  intro p d hd
  have h1 : pair p 1 = some (d 0 ++ d 1) := hexPair_some (hd 0) (hd 1)
  have h2 : pair p 2 = some (d 2 ++ d 3) := hexPair_some (hd 2) (hd 3)
  have h3 : pair p 3 = some (d 4 ++ d 5) := hexPair_some (hd 4) (hd 5)
  have h4 : pair p 4 = some (d 6 ++ d 7) := hexPair_some (hd 6) (hd 7)
  have hnumber : ((d 0 ++ d 1) ++ (d 2 ++ d 3) ++ (d 4 ++ d 5) ++ (d 6 ++ d 7) : TagBits).toNat =
      ∑ k : Fin 8, (d k).toNat * 16 ^ (7 - k.val) := dataTag_toNat (Fin.append (fun _ : Fin 2 => 0#4) d)
  exact ⟨_, _, _, _, _, tagValue_some h1 h2 h3 h4, hnumber, h1, h2, h3, h4, rfl⟩

/-- Settles O1: `hexval_toNat` and `ishex_iff`; the count is over the 256 bytes. -/
theorem hexvalIsTheHexDigitTable : Obligations.HexvalIsTheHexDigitTable :=
  ⟨hexval_toNat, ishex_iff, by decide⟩

/-- Settles O2: `hexPair_some` with the number of its byte. -/
theorem pairHighNibbleFirst : Obligations.PairHighNibbleFirst :=
  fun _ _ h l hhigh hlow => ⟨h ++ l, hexPair_some hhigh hlow, hexPair_toNat h l⟩

/-- The XOR of bits is the parity of their sum. -/
theorem xor_five_eq_parity : ∀ a b c d e : Bool,
    (a ^^ b ^^ c ^^ d ^^ e) = decide ((a.toNat + b.toNat + c.toNat + d.toNat + e.toNat) % 2 = 1) := by
  decide

/-- Settles O3: `xorfold_some`, and bit by bit `xor_five_eq_parity`. -/
theorem xorfoldIsParityOfFivePairs : Obligations.XorfoldIsParityOfFivePairs := by
  intro p a b c d e h0 h1 h2 h3 h4
  refine ⟨_, xorfold_some h0 h1 h2 h3 h4, rfl, fun j => ?_⟩
  simp only [BitVec.getLsbD_xor, xor_five_eq_parity]

/-- Settles O56: each function lacks a value when one of its pairs does, and these are the pairs of its positions. -/
theorem pairFoldAndTagHaveNoValueOffHex : Obligations.PairFoldAndTagHaveNoValueOffHex := by
  intro p
  refine ⟨pair_eq_none p, ?fold, ?tag⟩
  case fold =>
    rw [xorfold_eq_none]
    simp [pair_eq_none, Fin.exists_fin_succ, or_assoc]
  case tag =>
    rw [tagValue_eq_none]
    simp [pair_eq_none, Fin.exists_fin_succ, or_assoc]

end Sys2Proof.Machine

/-! The ten decimal digits of a tag (42_checksum_validator.md R132). -/

namespace Sys2Proof.Machine

variable {t u : TagBits} {j : Nat}

theorem decDigit_lt (t : TagBits) (j : Nat) : decDigit t j < 10 := Nat.mod_lt _ (by decide)

/-- The low `m` digits of `n` in base `b`, each at its place, make up `n` modulo `b ^ m`. -/
theorem sum_digits_eq_mod (b n m : Nat) : ∑ i ∈ Finset.range m, n / b ^ i % b * b ^ i = n % b ^ m := by
  induction m with
  | zero => simp [Nat.mod_one]
  | succ m ih => rw [Finset.sum_range_succ, ih, Nat.mod_pow_succ, Nat.mul_comm (b ^ m)]

/-- Nothing is truncated: ten digits hold every 32-bit number. -/
theorem sum_decDigit (t : TagBits) : ∑ j : Fin 10, decDigit t j.val * 10 ^ (9 - j.val) = t.toNat := by
  calc ∑ j : Fin 10, decDigit t j.val * 10 ^ (9 - j.val)
      = ∑ j ∈ Finset.range 10, decDigit t j * 10 ^ (9 - j) :=
        Fin.sum_univ_eq_sum_range (fun j => decDigit t j * 10 ^ (9 - j)) 10
    _ = ∑ i ∈ Finset.range 10, t.toNat / 10 ^ i % 10 * 10 ^ i :=
        Finset.sum_range_reflect (fun i => t.toNat / 10 ^ i % 10 * 10 ^ i) 10
    _ = t.toNat % 10 ^ 10 := sum_digits_eq_mod 10 t.toNat 10
    _ = t.toNat := Nat.mod_eq_of_lt (by omega)

/-- A 32-bit number is below five thousand million. -/
theorem decDigit_zero_le (t : TagBits) : decDigit t 0 ≤ 4 := by
  unfold decDigit
  omega

/-- The character of a digit tells the digit: 0x30 plus a digit stays within the byte. -/
theorem digitChar_toNat (t : TagBits) (j : Nat) : (digitChar t j).toNat = 0x30 + decDigit t j := by
  have hdigit := decDigit_lt t j
  rw [digitChar, BitVec.toNat_ofNat, Nat.mod_eq_of_lt (by omega)]

theorem decDigit_eq_of_digitChar_eq (h : digitChar t j = digitChar u j) : decDigit t j = decDigit u j := by
  have hbyte := congrArg BitVec.toNat h
  simpa only [digitChar_toNat, Nat.add_left_cancel_iff] using hbyte

/-- The first `m + 1` digits of `t` as text. -/
def leadingDigits (t : TagBits) : (m : Nat) → BitVec (8 * (m + 1))
  | 0 => digitChar t 0
  | m + 1 => leadingDigits t m ++ digitChar t (m + 1)

theorem dec10_eq_leadingDigits (t : TagBits) : dec10 t = leadingDigits t 9 := rfl

/-- Each further digit moves the bytes before it up by eight bits and stands in the lowest byte itself. -/
theorem leadingDigits_byte (t : TagBits) {m : Nat} (h : j ≤ m) :
    (leadingDigits t m).extractLsb' (8 * (m - j)) 8 = digitChar t j := by
  induction m with
  | zero =>
    obtain rfl : j = 0 := Nat.le_zero.mp h
    exact BitVec.extractLsb'_eq_self
  | succ m ih =>
    rcases Nat.le_succ_iff.mp h with hbefore | rfl
    · have hshift : 8 * (m + 1 - j) - 8 = 8 * (m - j) := by omega
      rw [← ih hbefore, ← hshift]
      exact BitVec.extractLsb'_append_eq_of_le (by omega)
    · rw [Nat.sub_self]
      exact (BitVec.extractLsb'_append_eq_of_add_le (by omega)).trans BitVec.extractLsb'_eq_self

/-- Byte `j` of the text, counted from the top, is the character of digit `j`. -/
theorem dec10_byte (t : TagBits) (j : Fin 10) : (dec10 t).extractLsb' (72 - 8 * j.val) 8 = digitChar t j.val := by
  have hplace : 72 - 8 * j.val = 8 * (9 - j.val) := by omega
  rw [dec10_eq_leadingDigits, hplace]
  exact leadingDigits_byte t (Nat.lt_succ_iff.mp j.isLt)

/-- The text determines each digit, and the digits determine the number. -/
theorem dec10_injective : Function.Injective dec10 := by
  intro t u h
  have hdigits (j : Fin 10) : decDigit t j.val = decDigit u j.val :=
    decDigit_eq_of_digitChar_eq (by rw [← dec10_byte, h, dec10_byte])
  refine BitVec.eq_of_toNat_eq ?_
  rw [← sum_decDigit t, ← sum_decDigit u]
  simp only [hdigits]

/-- Settles O7: `dec10_byte`, `sum_decDigit`, `decDigit_zero_le` and `dec10_injective`. -/
theorem dec10IsTenDigitDecimal : Obligations.Dec10IsTenDigitDecimal :=
  ⟨dec10_byte, sum_decDigit, decDigit_zero_le, dec10_injective⟩

end Sys2Proof.Machine

/-! The two events of time (43_watchdog.md R140 to R143), and the byte that rescues its frame (R149). -/

namespace Sys2Proof.Machine

variable {s u : State} {p : Ports} {b : Byte}

/-! `TICK` (R140) -/

/-- `now` wraps at 32 bits, as R140 counts it. -/
theorem time_add_one_eq (t : Time) : t + 1#32 = BitVec.ofNat 32 ((t.toNat + 1) % 2 ^ 32) :=
  BitVec.eq_of_toNat_eq (by simp)

/-- Settles O28: `time_add_one_eq`, the kind of the word, and `instrs_portEvents`, which lists `TICK` first. -/
theorem tickAdvancesNow : Obligations.TickAdvancesNow := by
  refine ⟨fun s => ?advances, fun w hkind => decode_of_kind hkind, fun p s htick => ?first⟩
  case advances => rw [← time_add_one_eq]; rfl
  case first => rw [instrs_portEvents, if_pos htick]; rfl

/-! `WAKE` (R141 to R143) -/

theorem exec_wake_stalled (hstall : s.stall = true) : exec .wake s = .next (raiseCause .stallTimeout s) :=
  congrArg Host.Outcome.next (if_pos hstall)

theorem exec_wake_noStall (hstall : s.stall = false) : exec .wake s = .next s :=
  congrArg Host.Outcome.next (if_neg (Bool.eq_false_iff.mp hstall))

/-- The silence since the last byte, counted over a wrap of `now` (R142). -/
theorem State.elapsed_toNat (s : State) :
    s.elapsed.toNat = (s.now.toNat + 2 ^ 32 - s.lastRxTime.toNat) % 2 ^ 32 := by
  have hlast : s.lastRxTime.toNat < 2 ^ 32 := s.lastRxTime.isLt
  rw [State.elapsed, BitVec.toNat_sub, Nat.add_sub_assoc hlast.le, Nat.add_comm]

theorem State.collecting_of_stall (hstall : s.stall = true) : s.run = true ∧ s.idle = false := by
  simp_all [State.stall]

/-- Outside a frame in progress nothing stalls; within one the silence has to exceed the window (R142). -/
theorem State.stall_eq_false
    (h : s.run = false ∨ s.idle = true ∨ s.elapsed.toNat ≤ s.stallWindow.toNat) : s.stall = false := by
  refine Bool.eq_false_iff.mpr fun hstall => ?_
  obtain ⟨hrun, hidle⟩ := State.collecting_of_stall hstall
  have hover := (State.stall_iff hrun hidle).mp hstall
  rcases h with hstopped | hscanning | hwithin
  · simp [hrun] at hstopped
  · simp [hidle] at hscanning
  · omega

/-- Settles O29: the two sides of the stall condition, and the effect of cause 6. -/
theorem wakeChecksAndFires : Obligations.WakeChecksAndFires := by
  refine ⟨fun s hrun hidle hover => ?fires, fun s hwithin => ?stays, fun w hkind => decode_of_kind hkind⟩
  case fires =>
    rw [← State.elapsed_toNat] at hover
    exact exec_wake_stalled ((State.stall_iff hrun hidle).mpr hover)
  case stays =>
    rw [← State.elapsed_toNat] at hwithin
    exact exec_wake_noStall (State.stall_eq_false hwithin)

/-! A byte in a tick cycle (R149) -/

/-- The check right after a byte finds no time elapsed. -/
theorem ByteOutcome.exec_wake (h : ByteOutcome b s u) : exec .wake u = .next u :=
  exec_wake_noStall h.stall_eq_false

/-- A byte and the check after it do together what the byte does alone. -/
theorem runEvents_classify_wake (b : Byte) (hrun : s.run = true) :
    runEvents [classify s.idle b, .wake] s = runEvents [classify s.idle b] s := by
  obtain ⟨u, hexec, hu⟩ := exec_classify b hrun
  rw [runEvents_cons, runEvents_single, hexec, andThen_next, runEvents_single, hu.exec_wake]

theorem loopInstrs_byte (hvalid : p.rxValid = true) (hready : s.rxReady = true) :
    loopInstrs p s = [classify s.idle p.rxData] := by
  rw [loopInstrs, (portLoop_eq_rx_iff p s p.rxData).mpr ⟨hready, hvalid, rfl⟩]
  rfl

/-- Settles O42: `TICK` changes neither `run` nor `idle`, so `runEvents_classify_wake` applies after it. -/
theorem byteInTickCycleRescuesFrame : Obligations.ByteInTickCycleRescuesFrame := by
  intro p s hrst htick hvalid hready
  have hrun : (s.cycleStart true).run = true := by rw [State.cycleStart_run, State.run_of_rxReady hready]
  have hdrop : runEvents [.tick, classify s.idle p.rxData, .wake] s.clearPulses =
      runEvents [.tick, classify s.idle p.rxData] s.clearPulses := by
    have hwake := runEvents_classify_wake p.rxData hrun
    rwa [State.cycleStart_idle] at hwake
  rw [runEvents_append, ← hdrop, ← runEvents_append, portCycle_events p s hrst, runCycle, instrs_portEvents,
    loopInstrs_byte hvalid hready, htick]
  rfl

end Sys2Proof.Machine

/-! The events that ask for a reconnect (44_reconnect.md R151). -/

namespace Sys2Proof.Machine

variable {i : Instr} {s t : State}

/-- The stall condition as R142 writes it. -/
theorem State.stall_eq_true_iff : s.stall = true ↔
    s.run = true ∧ s.idle = false ∧ s.stallWindow.setWidth 32 < s.now - s.lastRxTime := by
  rw [State.stall, State.elapsed, Bool.and_eq_true, Bool.and_eq_true, Bool.not_eq_true', decide_eq_true_iff,
    and_assoc]

theorem exec_rxNonascii_collecting (b : Byte) (hrun : s.run = true) (hidle : s.idle = false) :
    exec (.rxNonascii b) s = .next (raiseCause .nonAsciiByte s.stamp) :=
  takeByte_happens _ _ _ hrun hidle

/-- An outcome that asks for a reconnect is that of a non-ASCII byte in a frame or of a fire: every other effect keeps
`reconnect_req` or, as `RESET`, clears it. -/
theorem EventOutcome.reconnectReq_rises (h : EventOutcome s i t) (hs : s.reconnectReq = false)
    (ht : t.reconnectReq = true) :
    (∃ b, i = .rxNonascii b ∧ s.run = true ∧ s.idle = false) ∨ (i = .wake ∧ s.stall = true) := by
  cases h with
  | nonAscii b hrun hidle => exact .inl ⟨b, rfl, hrun, hidle⟩
  | fires hstall => exact .inr ⟨rfl, hstall⟩
  | resets => exact absurd ht Bool.false_ne_true
  | _ => simp [raiseCause_reconnectReq, hs] at ht

/-- Settles O35: `EventOutcome.reconnectReq_rises`, and the causes 3 and 6 that the two events raise. -/
theorem reconnectOnlyByTwoEvents : Obligations.ReconnectOnlyByTwoEvents := by
  intro i s t hs hexec
  rw [← State.stall_eq_true_iff]
  constructor
  · exact (exec_outcome hexec).reconnectReq_rises hs
  · rintro (⟨b, rfl, hrun, hidle⟩ | ⟨rfl, hstall⟩)
    · obtain rfl := Host.Outcome.next.inj ((exec_rxNonascii_collecting b hrun hidle).symm.trans hexec)
      exact raiseCause_reconnectReq .nonAsciiByte _
    · obtain rfl := Host.Outcome.next.inj ((exec_wake_stalled hstall).symm.trans hexec)
      exact raiseCause_reconnectReq .stallTimeout _

end Sys2Proof.Machine

/-! The configuration registers and the reset event (45_host_config.md R158 to R162). -/

namespace Sys2Proof.Machine

variable {s : State} {p : Ports}

/-! `CFGWR` (R158) -/

theorem exec_cfgwr_stallWindow (s : State) (d : CfgWord) :
    exec (.cfgwr 0#2 d) s = .next { s with stallWindow := d } :=
  rfl

theorem exec_cfgwr_logEn (s : State) (d : CfgWord) :
    exec (.cfgwr 1#2 d) s = .next { s with logEn := d.getLsbD 0 } :=
  rfl

/-- Only registers 0 and 1 are written. -/
theorem exec_cfgwr_ignored {a : CfgAddr} (d : CfgWord) (h0 : a ≠ 0#2) (h1 : a ≠ 1#2) :
    exec (.cfgwr a d) s = .next s := by
  simp [exec, execCfgwr, h0, h1]

/-- The host's write is the last event of its cycle (20_memory.md R64 step 6). -/
theorem instrs_portEvents_getLast (s : State) (hwe : p.cfgWe = true) :
    ((portEvents p s).instrs s).getLast? = some (.cfgwr p.cfgAddr p.cfgWdata) := by
  rw [instrs_portEvents, if_pos hwe]
  exact List.getLast?_concat

/-- Settles O30: one equation per register, the kind of the word, and `instrs_portEvents_getLast`. -/
theorem cfgwrWritesRegister : Obligations.CfgwrWritesRegister := by
  refine ⟨fun s d => ⟨exec_cfgwr_stallWindow s d, exec_cfgwr_logEn s d, ?status, ?reserved⟩,
    fun _ hkind => decode_of_kind hkind, fun _ s hwe => instrs_portEvents_getLast s hwe⟩
  case status => exact exec_cfgwr_ignored d (by decide) (by decide)
  case reserved => exact exec_cfgwr_ignored d (by decide) (by decide)

/-! `CFGRD` (R160): the registers as numbers -/

theorem exec_cfgrd (a : CfgAddr) (s : State) : exec (.cfgrd a) s = .next { s with lastRead := some (s.readCfg a) } :=
  rfl

theorem State.readCfg_stallWindow (s : State) : s.readCfg 0#2 = s.stallWindow := rfl

theorem State.readCfg_reserved (s : State) : s.readCfg 3#2 = 0#16 := rfl

/-- CTRL as a number is `LOG_EN`. -/
theorem State.ctrl_eq_ofNat (s : State) : s.ctrl = BitVec.ofNat 16 s.logEn.toNat := by
  refine BitVec.eq_of_toNat_eq ?_
  simp [State.ctrl]

/-- STATUS joins its four elements, `run` lowest: each one weighs two to the number of bits below it. -/
theorem State.status_toNat (s : State) :
    s.status.toNat = s.run.toNat + 2 * s.idle.toNat + 4 * s.len.toNat + 64 * s.tagv.toNat := by
  simp only [State.status, BitVec.toNat_setWidth, toNat_append_eq_add, BitVec.toNat_ofBool]
  have hrun := s.run.toNat_le
  have hidle := s.idle.toNat_le
  have htagv := s.tagv.toNat_le
  omega

theorem State.status_eq_ofNat (s : State) :
    s.status = BitVec.ofNat 16 (s.run.toNat + 2 * s.idle.toNat + 4 * s.len.toNat + 64 * s.tagv.toNat) := by
  rw [← State.status_toNat, BitVec.ofNat_toNat, BitVec.setWidth_eq]

/-- Settles O31: `exec_cfgrd` with the number of each register; `cfg_rdata` is the same reading. -/
theorem cfgrdReturnsRegister : Obligations.CfgrdReturnsRegister := by
  refine ⟨fun s => ⟨?window, ?ctrl, ?status, ?reserved⟩, fun s a => exec_cfgrd a s,
    fun _ hkind => decode_of_kind hkind⟩
  case window => rw [exec_cfgrd, State.readCfg_stallWindow]
  case ctrl => rw [exec_cfgrd, State.readCfg_ctrl, State.ctrl_eq_ofNat]
  case status => rw [exec_cfgrd, State.readCfg_status, State.status_eq_ofNat]
  case reserved => rw [exec_cfgrd, State.readCfg_reserved]

/-! `RESET` (R162) -/

/-- The state a reset leaves: that of `State.reset`, but for `buf`, whose slots are free, and the model's own fields. -/
theorem exec_reset (s : State) :
    exec .reset s = .next { State.reset with
      buf := freeSlots s.freeIndex, inputs := s.inputs, lastRead := s.lastRead, freeIndex := s.freeIndex + 12 } :=
  rfl

/-- Settles O32: `exec_reset`, each element being that of `State.reset`, and `portCycle_rst`. -/
theorem resetEventRestoresValues : Obligations.ResetEventRestoresValues := by
  refine ⟨fun s => ⟨_, exec_reset s, ?values⟩, fun _ hkind => decode_of_kind hkind, portCycle_rst⟩
  case values => exact ⟨rfl, rfl, rfl, rfl, rfl, rfl, rfl, rfl, rfl, rfl, rfl, rfl, rfl⟩

end Sys2Proof.Machine

/-! Taking a cause (60_exceptions.md R176), and that every event and every step completes (R187). -/

namespace Sys2Proof.Machine

variable {k : Cause} {d : DiagBits}

/-- The last line of the discard path, with the bit that the cause's code stands for (30_encoding.md R92). -/
theorem State.logCause_eq (s : State) (hbit : k.diagBit = d) :
    s.logCause k = { s with diag := if s.logEn then s.diag ||| d else s.diag } := by
  subst hbit
  rfl

/-- Settles O33: the lines of the discard path that the cause takes, the last of them `State.logCause_eq`. -/
theorem discardPathOfEachCause : Obligations.DiscardPathOfEachCause := by
  intro s
  refine ⟨raiseCause_transportTimeout s, ?skipped, ?nonAscii, ?wrongLength, ?invalid, ?stalled⟩
  case skipped => exact s.logCause_eq rfl
  case nonAscii => exact s.toIdle.pulseReconnect.logCause_eq rfl
  case wrongLength => exact s.toIdle.logCause_eq rfl
  case invalid => exact s.toIdle.logCause_eq rfl
  case stalled => exact s.toIdle.pulseReconnect.stamp.logCause_eq rfl

/-- A byte event is an identity step where its guard is false, so it completes everywhere. -/
theorem takeByte_completes (mode : Bool) (f : State → State) (s : State) : ∃ t, takeByte mode f s = .next t :=
  ⟨_, rfl⟩

theorem exec_completes (i : Instr) (s : State) : ∃ t, exec i s = .next t := by
  cases i with
  | rxStart | rxSkip b | rxEnd | rxNonascii b | rxData b => exact takeByte_completes _ _ s
  | reset | nodata | tick | invoke | cfgwr a w | cfgrd a | wake => exact ⟨_, rfl⟩

/-- Equality is a simulation because every event completes: `Answer.Alike` asks for two next states. -/
theorem simulation_eq : Simulation (Eq (α := State)) where
  inputs_eq h := by rw [h]
  run_eq h := by rw [h]
  idle_eq h := by rw [h]
  reconnectReq_eq h := by rw [h]
  withInputs xs h := by rw [h]
  clearPulses h := by rw [h]
  exec {s _} i h := by
    obtain ⟨t, ht⟩ := exec_completes i s
    exact ⟨t, t, ht, h ▸ ht, rfl⟩

theorem step_completes (s : State) : ∃ t, step s = .next t := by
  obtain ⟨t, -, ht, -, -⟩ := simulation_eq.step (rfl : s = s)
  exact ⟨t, ht⟩

/-- Settles O47: `exec_completes`, carried through the cycle and each kind of input by `simulation_eq`. -/
theorem everyEventAndStepCompletes : Obligations.EveryEventAndStepCompletes :=
  ⟨exec_completes, step_completes⟩

end Sys2Proof.Machine

/-! A frame of the wrong length (41_frame_decoder.md section 7, 60_exceptions.md R170): the count of its characters,
of which `len` shows 13 at most, is all that its end marker reads. -/

namespace Sys2Proof.Machine

variable {s c : State} {b : Byte} {cs : List Byte} {rest xs : List Input} {n : Nat}

@[simp] theorem State.eventStart_tagBin (s : State) (xs : List Input) : (s.eventStart xs).tagBin = s.tagBin := rfl
@[simp] theorem State.eventStart_tagAscii (s : State) (xs : List Input) :
    (s.eventStart xs).tagAscii = s.tagAscii := rfl
@[simp] theorem State.eventStart_tagv (s : State) (xs : List Input) : (s.eventStart xs).tagv = s.tagv := rfl
@[simp] theorem State.eventStart_diag (s : State) (xs : List Input) : (s.eventStart xs).diag = 0#6 := rfl

theorem isText_of_le (hlow : b ≤ 0x7F#8) (hb : b ≠ 0x03#8) : IsText b := ⟨hb, BitVec.not_lt.mpr hlow⟩

/-- The append counts to 13 and stays there. -/
theorem appendChar_len_toNat (b : Byte) (s : State) :
    (appendChar b s).len.toNat = if s.len.toNat < 12 then s.len.toNat + 1 else 13 := by
  split_ifs with hroom
  · exact (take_appendChar hroom).1
  · rw [appendChar_of_ge (Nat.not_lt.mp hroom)]
    rfl

/-- The result registers of `c`. -/
structure State.SameTag (c s : State) : Prop where
  tagBin : s.tagBin = c.tagBin
  tagAscii : s.tagAscii = c.tagAscii
  tagv : s.tagv = c.tagv

/-- Collecting a frame of `n` characters, `cs` of them still to come. The two counts agree up to 13, where `len` stops;
nothing is said of the characters stored. -/
structure State.Counting (c : State) (n : Nat) (cs : List Byte) (s : State) : Prop where
  run : s.run = true
  collecting : s.idle = false
  text : ∀ b ∈ cs, IsText b
  count : min (s.len.toNat + cs.length) 13 = min n 13
  logEn : s.logEn = c.logEn
  tag : c.SameTag s

/-- The outcome of a discarded frame: Idle with an empty buffer, the tag as in `c`, and cause 4 alone reported. -/
structure State.LengthDiscarded (c s : State) : Prop where
  run : s.run = true
  idle : s.idle = true
  len : s.len = 0#4
  tag : c.SameTag s
  done : s.done = false
  reconnectReq : s.reconnectReq = false
  diag : s.diag = if c.logEn then 0b001000#6 else 0#6

theorem step_start_counting (hrun : s.run = true) (hidle : s.idle = true) (htext : ∀ b ∈ cs, IsText b)
    (hin : s.inputs = Trace.rx Config.startMarker :: xs) :
    ∃ t, step s = .next t ∧ t.inputs = xs ∧ s.Counting cs.length cs t :=
  ⟨_, (step_rx hin).trans (exec_start (s := s.eventStart xs) hrun hidle), rfl,
    hrun, rfl, htext, by simp, rfl, ⟨rfl, rfl, rfl⟩⟩

theorem State.Counting.step_rx (hs : c.Counting n (b :: cs) s) (hin : s.inputs = Trace.rx b :: xs) :
    ∃ t, step s = .next t ∧ t.inputs = xs ∧ c.Counting n cs t := by
  obtain ⟨hb, htext⟩ := List.forall_mem_cons.mp hs.text
  refine ⟨_, (Machine.step_rx hin).trans (exec_text (s := s.eventStart xs) hs.run hs.collecting hb), by simp,
    by simp [hs.run], by simp [hs.collecting], htext, ?count, by simp [hs.logEn], ?tag⟩
  case count =>
    have hcount := hs.count
    rw [List.length_cons] at hcount
    rw [appendChar_len_toNat, State.stamp_len, State.eventStart_len]
    split_ifs <;> omega
  case tag => exact ⟨by simp [hs.tag.tagBin], by simp [hs.tag.tagAscii], by simp [hs.tag.tagv]⟩

/-- All characters counted: `len` is 12 for twelve of them only. -/
theorem State.Counting.len_ne (hs : c.Counting n [] s) (hn : n ≠ 12) : s.len ≠ Config.payloadLen := by
  intro hlen
  have hcount := hs.count
  rw [hlen, List.length_nil] at hcount
  have hpayload : Config.payloadLen.toNat = 12 := rfl
  omega

theorem State.Counting.step_end (hs : c.Counting n [] s) (hn : n ≠ 12)
    (hin : s.inputs = Trace.rx Config.endMarker :: xs) :
    ∃ t, step s = .next t ∧ t.inputs = xs ∧ c.LengthDiscarded t := by
  have hclose := closeFrame_wrongLength (s := (s.eventStart xs).stamp) (hs.len_ne hn)
  refine ⟨_, (Machine.step_rx hin).trans (exec_end (s := s.eventStart xs) hs.run hs.collecting), ?_⟩
  rw [hclose]
  refine ⟨rfl, hs.run, rfl, rfl, ⟨hs.tag.tagBin, hs.tag.tagAscii, hs.tag.tagv⟩, rfl, rfl, ?diag⟩
  rw [raiseCause_diag _ _ (by decide), State.stamp_diag, State.eventStart_diag, BitVec.zero_or, ← hs.logEn]
  rfl

/-- A text frame whose length is not twelve is discarded, from every running state in Idle. -/
theorem core_run_frame_wrongLength (hrun : s.run = true) (hidle : s.idle = true) (htext : ∀ b ∈ cs, IsText b)
    (hlen : cs.length ≠ 12) (hin : s.inputs = Trace.frame cs ++ rest) :
    ∃ t, core.run (cs.length + 2) s = .next t ∧ t.inputs = rest ∧ s.LengthDiscarded t := by
  have hframe : s.inputs =
      Trace.rx Config.startMarker :: (Trace.str cs ++ (Trace.rx Config.endMarker :: rest)) := by
    simpa [Trace.frame] using hin
  obtain ⟨s₁, hstart, hin₁, hs₁⟩ := step_start_counting hrun hidle htext hframe
  obtain ⟨s₂, hcollect, hin₂, hs₂⟩ :=
    core_run_str (s.Counting cs.length) (fun _ _ _ _ => State.Counting.step_rx) hs₁ hin₁
  obtain ⟨t, hend, hin₃, ht⟩ := hs₂.step_end hlen hin₂
  refine ⟨t, ?_, hin₃, ht⟩
  calc core.run (cs.length + 2) s
      = core.run (cs.length + 1) s₁ := core_run_succ hstart _
    _ = core.run 1 s₂ := core_run_add hcollect 1
    _ = .next t := core_run_succ hend 0

/-- Settles O55: `core_run_frame_wrongLength`. -/
theorem wrongLengthFrameIsDiscarded : Obligations.WrongLengthFrameIsDiscarded := by
  intro s cs rest hrun hidle hlow hlen hin
  have htext : ∀ b ∈ cs, IsText b := fun b hb => isText_of_le (hlow b hb).1 (hlow b hb).2
  obtain ⟨t, hcore, hinputs, ht⟩ := core_run_frame_wrongLength hrun hidle htext hlen hin
  exact ⟨t, hcore, ht.run, ht.idle, ht.len, ht.tag.tagBin, ht.tag.tagAscii, ht.tag.tagv, ht.done, ht.reconnectReq,
    ht.diag, hinputs⟩

end Sys2Proof.Machine

/-! The state after reset (70_reset_and_hazards.md section 1, R190). -/

namespace Sys2Proof.Machine

/-- Settles O37: the values as `State.reset` is defined, `portCycle_rst`, and `exec_reset`, whose state overwrites no
element of `State.reset` but `buf` and the model's own fields. -/
theorem resetStateValues : Obligations.ResetStateValues := by
  refine ⟨rfl, rfl, rfl, rfl, rfl, rfl, ?window, rfl, rfl, ?zeroTag, rfl, rfl, rfl, portCycle_rst,
    fun s => ⟨_, exec_reset s, ?others⟩⟩
  case window => exact (rfl : Config.stallDefault = 10#16)
  case zeroTag => exact (rfl : Config.zeroTagText = 0x30303030303030303030#80)
  case others => rfl

end Sys2Proof.Machine

/-! The decoder and the encoder agree (30_encoding.md section 4). -/

namespace Sys2Proof

/-- Settles O11: `decode_encode`, format by format. -/
theorem decodeEncodeRoundTrip : Obligations.DecodeEncodeRoundTrip := fun _ => decode_encode

/-- Settles O16: the ten words are fixed, and the decoder computes. -/
theorem sampleWordsDecodeAsListed : Obligations.SampleWordsDecodeAsListed :=
  ⟨rfl, rfl, rfl, rfl, rfl, rfl, rfl, rfl, rfl, rfl⟩

end Sys2Proof

/-! The invariants of 10_state.md R43: the named operations and every event keep them, and so does a step. -/

namespace Sys2Proof.Machine

variable {i : Instr} {s t : State} {P : State → Prop}

/-- Equality of two states with the property `P` is a simulation, if `P` is kept by clearing the pulses, by taking an
input off the list and by every event. -/
theorem simulation_of_kept (hinputs : ∀ s xs, P s → P (s.withInputs xs)) (hclear : ∀ s, P s → P s.clearPulses)
    (hexec : ∀ i s t, P s → exec i s = .next t → P t) : Simulation fun s t => t = s ∧ P s where
  inputs_eq h := by rw [h.1]
  run_eq h := by rw [h.1]
  idle_eq h := by rw [h.1]
  reconnectReq_eq h := by rw [h.1]
  withInputs xs h := ⟨by rw [h.1], hinputs _ xs h.2⟩
  clearPulses h := ⟨by rw [h.1], hclear _ h.2⟩
  exec {s _} i h := by
    obtain ⟨e, hs⟩ := h
    obtain ⟨u, hu⟩ := exec_completes i s
    exact ⟨u, u, hu, e ▸ hu, rfl, hexec i s u hs hu⟩

/-- Such a property is kept by every step. -/
theorem step_keeps (hinputs : ∀ s xs, P s → P (s.withInputs xs)) (hclear : ∀ s, P s → P s.clearPulses)
    (hexec : ∀ i s t, P s → exec i s = .next t → P t) (hs : P s) (h : step s = .next t) : P t := by
  obtain ⟨_, u, -, hu, rfl, hkept⟩ := (simulation_of_kept hinputs hclear hexec).step ⟨rfl, hs⟩
  obtain rfl := Host.Outcome.next.inj (hu.symm.trans h)
  exact hkept

/-- The six elements that the invariants speak of. -/
structure State.SameControl (s t : State) : Prop where
  idle : t.idle = s.idle
  len : t.len = s.len
  run : t.run = s.run
  tagBin : t.tagBin = s.tagBin
  tagAscii : t.tagAscii = s.tagAscii
  tagv : t.tagv = s.tagv

namespace State.Inv

theorem congr (hs : s.Inv) (h : s.SameControl t) : t.Inv where
  idle_empty := by rw [h.idle, h.len]; exact hs.idle_empty
  stopped_idle := by rw [h.run, h.idle]; exact hs.stopped_idle
  len_le := by rw [h.len]; exact hs.len_le
  tag_agrees := by rw [h.tagAscii, h.tagBin]; exact hs.tag_agrees
  tagv_stopped := by rw [h.tagv, h.run]; exact hs.tagv_stopped

theorem reset : State.reset.Inv where
  idle_empty _ := rfl
  stopped_idle _ := rfl
  len_le := by decide
  tag_agrees := by decide
  tagv_stopped htagv := absurd htagv Bool.false_ne_true

theorem stamp (hs : s.Inv) : s.stamp.Inv := hs.congr ⟨rfl, rfl, rfl, rfl, rfl, rfl⟩

theorem toIdle (hs : s.Inv) : s.toIdle.Inv where
  idle_empty _ := rfl
  stopped_idle _ := rfl
  len_le := by simp
  tag_agrees := hs.tag_agrees
  tagv_stopped := hs.tagv_stopped

/-- A frame is begun in a running invocation only. -/
theorem beginFrame (hs : s.Inv) (hrun : s.run = true) : s.beginFrame.Inv where
  idle_empty hidle := absurd hidle Bool.false_ne_true
  stopped_idle hstop := by simp [hrun] at hstop
  len_le := by simp
  tag_agrees := hs.tag_agrees
  tagv_stopped := hs.tagv_stopped

/-- A cause changes none of the six elements, or empties the frame into Idle. -/
theorem raiseCause (hs : s.Inv) (k : Cause) : (raiseCause k s).Inv := by
  cases k with
  | transportTimeout => exact hs
  | invalidLeadingByte => exact hs.congr ⟨rfl, rfl, rfl, rfl, rfl, rfl⟩
  | nonAsciiByte | lengthMismatch | checksumMismatch | stallTimeout =>
    exact hs.toIdle.congr ⟨rfl, rfl, rfl, rfl, rfl, rfl⟩

theorem emit (v : TagBits) (s : State) : (emit v s).Inv where
  idle_empty _ := rfl
  stopped_idle _ := rfl
  len_le := by simp
  tag_agrees := rfl
  tagv_stopped _ := rfl

/-- The count of a frame in progress stops at 13. -/
theorem appendChar (hs : s.Inv) (b : Byte) (hidle : s.idle = false) : (appendChar b s).Inv where
  idle_empty h := by simp [hidle] at h
  stopped_idle := by simpa using hs.stopped_idle
  len_le := by
    rw [BitVec.le_def, appendChar_len_toNat]
    split_ifs with hroom
    · exact Nat.le_trans hroom (by decide)
    · exact Nat.le_refl 13
  tag_agrees := by simpa using hs.tag_agrees
  tagv_stopped := by simpa using hs.tagv_stopped

theorem invoke (hs : s.Inv) : State.Inv { s.toIdle.stamp with run := true, tagv := false } where
  idle_empty _ := rfl
  stopped_idle _ := rfl
  len_le := by simp
  tag_agrees := hs.tag_agrees
  tagv_stopped htagv := absurd htagv Bool.false_ne_true

end State.Inv

/-- Every effect an event can have keeps the invariants. -/
theorem EventOutcome.inv (h : EventOutcome s i t) (hs : s.Inv) : t.Inv := by
  cases h with
  | stays => exact hs
  | resets => exact State.Inv.reset.congr ⟨rfl, rfl, rfl, rfl, rfl, rfl⟩
  | begins hrun => exact hs.stamp.beginFrame hrun
  | skips | wrongLength | invalid | nonAscii => exact hs.stamp.raiseCause _
  | emits v => exact State.Inv.emit v s.stamp
  | appends b _ hidle => exact hs.stamp.appendChar b hidle
  | starts => exact hs.invoke
  | ticks | setsWindow | setsLog | reads => exact hs.congr ⟨rfl, rfl, rfl, rfl, rfl, rfl⟩
  | fires => exact hs.raiseCause _

theorem exec_inv (i : Instr) (s t : State) (hs : s.Inv) (h : exec i s = .next t) : t.Inv := (exec_outcome h).inv hs

/-- Settles O49: `exec_inv`, carried to a step by `step_keeps`. -/
theorem everyStepKeepsInvariants : Obligations.EveryStepKeepsInvariants := by
  refine ⟨fun s t hs hstep => step_keeps (fun s xs hs => ?_) (fun s hs => ?_) exec_inv hs hstep, exec_inv⟩
  all_goals exact hs.congr ⟨rfl, rfl, rfl, rfl, rfl, rfl⟩

end Sys2Proof.Machine

/-! The pulses of one cycle (60_exceptions.md R173, 44_reconnect.md R152): they are cleared first, and of the events
after that at most one pulses. -/

namespace Sys2Proof.Machine

variable {i : Instr} {s t u : State}

/-- No pulse is set. -/
structure State.PulseFree (s : State) : Prop where
  done : s.done = false
  reconnectReq : s.reconnectReq = false
  diag : s.diag = 0#6

/-- The pulse discipline, and no pulse while a frame is in progress: an event that pulses ends in Idle, where no later
event of the cycle pulses again. -/
structure State.PulsedOnce (s : State) : Prop where
  pulseInv : s.PulseInv
  collecting : s.idle = false → s.PulseFree

theorem State.PulseFree.pulsedOnce (hs : s.PulseFree) : s.PulsedOnce where
  pulseInv := {
    one_cause := .inl hs.diag
    done_tag := fun h => by simp [hs.done] at h
    reconnect_idle := fun h => by simp [hs.reconnectReq] at h }
  collecting _ := hs

theorem State.pulseFree_clearPulses (s : State) : s.clearPulses.PulseFree := ⟨rfl, rfl, rfl⟩

theorem State.pulseFree_cycleStart (s : State) (k : Bool) : (s.cycleStart k).PulseFree :=
  ⟨s.cycleStart_done k, s.cycleStart_reconnectReq k, s.cycleStart_diag k⟩

/-- A cause raised in a running invocation with no pulse set, when it ends in Idle: its report is its own bit or
nothing. -/
theorem State.PulseFree.raiseCause (hs : s.PulseFree) {k : Cause} (hk : k ≠ .transportTimeout) (hrun : s.run = true)
    (hidle : (raiseCause k s).idle = true) : (raiseCause k s).PulsedOnce where
  pulseInv := {
    one_cause := by
      rw [raiseCause_diag k s hk, hs.diag, BitVec.zero_or]
      split
      · exact .inr ⟨k, hk, rfl⟩
      · exact .inl rfl
    done_tag := fun h => by simp [hs.done] at h
    reconnect_idle := fun _ => ⟨by rw [raiseCause_run, hrun], hidle⟩ }
  collecting h := by simp [hidle] at h

theorem State.PulseFree.emit (hs : s.PulseFree) (v : TagBits) : (emit v s).PulsedOnce where
  pulseInv := {
    one_cause := .inl hs.diag
    done_tag := fun _ => ⟨rfl, rfl⟩
    reconnect_idle := fun h => by simp [hs.reconnectReq] at h }
  collecting h := absurd h Bool.false_ne_true.symm

/-- Every effect an event can have pulses at most once. -/
theorem EventOutcome.pulsedOnce (h : EventOutcome s i t) (hs : s.PulseFree) : t.PulsedOnce := by
  have hstamp : s.stamp.PulseFree := ⟨hs.done, hs.reconnectReq, hs.diag⟩
  cases h with
  | stays => exact hs.pulsedOnce
  | resets => exact State.PulseFree.pulsedOnce ⟨rfl, rfl, rfl⟩
  | skips _ hrun hidle => exact hstamp.raiseCause (by decide) hrun hidle
  | wrongLength hrun | invalid hrun | nonAscii _ hrun => exact hstamp.raiseCause (by decide) hrun rfl
  | emits v => exact hstamp.emit v
  | fires hstall =>
    obtain ⟨hrun, -⟩ := State.collecting_of_stall hstall
    exact hs.raiseCause (by decide) hrun rfl
  | appends b =>
    exact State.PulseFree.pulsedOnce ⟨by simp [hs.done], by simp [hs.reconnectReq], by simp [hs.diag]⟩
  | begins | starts | ticks | setsWindow | setsLog | reads =>
    exact State.PulseFree.pulsedOnce ⟨hs.done, hs.reconnectReq, hs.diag⟩

/-- The watchdog fires in a frame in progress only, and there no pulse is set. -/
theorem State.PulsedOnce.watch (hs : s.PulsedOnce) (k : Bool) : (s.watch k).PulsedOnce := by
  unfold State.watch
  split_ifs with hfire
  · obtain ⟨-, hstall⟩ := Bool.and_eq_true_iff.mp hfire
    obtain ⟨-, hidle⟩ := State.collecting_of_stall hstall
    exact (EventOutcome.fires hstall).pulsedOnce (hs.collecting hidle)
  · exact hs

/-- The host's write touches neither a pulse nor the state it stands with. -/
theorem State.PulseInv.cfgwr {a : CfgAddr} {d : CfgWord} (hs : s.PulseInv) (h : exec (.cfgwr a d) s = .next t) :
    t.PulseInv := by
  cases exec_outcome h with
  | stays => exact hs
  | setsWindow | setsLog => exact ⟨hs.one_cause, hs.done_tag, hs.reconnect_idle⟩

/-- A cycle: clear the pulses and tick, at most one event of the decode loop, the watchdog, the host's write. -/
theorem runCycle_pulseInv {c : CycleEvents} (h : runCycle c s = .next t) : t.PulseInv := by
  simp only [runCycle, CycleEvents.instrs, runEvents_append, runEvents_tick, andThen_next, andThen_eq_next,
    runEvents_wake] at h
  obtain ⟨_, ⟨u, hloop, hwake⟩, hwrite⟩ := h
  obtain rfl := Host.Outcome.next.inj hwake
  have hstart := s.pulseFree_cycleStart c.tick
  have hu : u.PulsedOnce := by
    cases hc : c.loop with
    | none =>
      rw [hc] at hloop
      exact Host.Outcome.next.inj hloop ▸ hstart.pulsedOnce
    | some e =>
      rw [hc, runEvents_single] at hloop
      exact (exec_outcome hloop).pulsedOnce hstart
  have hwatch := (hu.watch c.wake).pulseInv
  cases hc : c.cfgwr with
  | none =>
    rw [hc] at hwrite
    exact Host.Outcome.next.inj hwrite ▸ hwatch
  | some w =>
    rw [hc, runEvents_single] at hwrite
    exact hwatch.cfgwr hwrite

/-- Whatever an input finds, the discipline holds after it. -/
theorem input_run_pulseInv (x : Input) (h : x.run s = .next t) : t.PulseInv := by
  cases x with
  | word w => exact ((exec_outcome h).pulsedOnce s.pulseFree_clearPulses).pulseInv
  | cycle c => exact runCycle_pulseInv h
  | ports p =>
    cases hrst : p.rst with
    | true =>
      obtain rfl := Host.Outcome.next.inj ((portCycle_rst p s hrst).symm.trans h)
      exact (State.PulseFree.pulsedOnce ⟨rfl, rfl, rfl⟩).pulseInv
    | false => exact runCycle_pulseInv ((portCycle_events p s hrst).symm.trans h)

/-- Settles O50: `input_run_pulseInv`; with no input left nothing changes. -/
theorem everyStepKeepsPulseDiscipline : Obligations.EveryStepKeepsPulseDiscipline := by
  intro s t hs hstep
  cases hin : s.inputs with
  | nil => exact Host.Outcome.next.inj ((step_nil s hin).symm.trans hstep) ▸ hs
  | cons x xs => exact input_run_pulseInv x ((step_cons s x xs hin).symm.trans hstep)

end Sys2Proof.Machine

/-! The time since the last byte of a frame in progress (43_watchdog.md R146). -/

namespace Sys2Proof.Machine

variable {s t u : State} {p : Ports} {b : Byte}

theorem ByteOutcome.now_eq (h : ByteOutcome b s u) : u.now = s.now := by
  cases h <;> simp

theorem State.elapsedBounded_of_stopped (hrun : s.run = false) : s.ElapsedBounded :=
  fun h => absurd (hrun.symm.trans h) Bool.false_ne_true

theorem State.elapsedBounded_of_idle (hidle : s.idle = true) : s.ElapsedBounded :=
  fun _ h => absurd (hidle.symm.trans h) Bool.false_ne_true.symm

/-- Right after a byte no time has elapsed. -/
theorem ByteOutcome.elapsedBounded (h : ByteOutcome b s u) : u.ElapsedBounded := by
  intro _ _
  simp [State.elapsed, h.lastRxTime_eq, h.now_eq]

/-- A frame that a check of the watchdog leaves in progress has waited no longer than the window. -/
theorem State.elapsedBounded_watch_tick (s : State) : (s.watch true).ElapsedBounded := by
  cases hstall : s.stall with
  | true =>
    rw [State.watch_fires hstall]
    exact State.elapsedBounded_of_idle rfl
  | false =>
    rw [State.watch_noStall _ hstall]
    intro hrun hidle
    have hwithin : ¬ s.stallWindow.toNat < s.elapsed.toNat :=
      mt (State.stall_iff hrun hidle).mpr (Bool.eq_false_iff.mp hstall)
    have hwindow : s.stallWindow.toNat < 2 ^ 16 := s.stallWindow.isLt
    omega

/-- Time and the watchdog keep the bound: without a tick no time passes, and with one the watchdog checks. -/
theorem State.ElapsedBounded.watch (hs : s.ElapsedBounded) (k : Bool) :
    ((s.cycleStart k).watch k).ElapsedBounded := by
  cases k with
  | false => exact hs
  | true => exact State.elapsedBounded_watch_tick _

/-- The bound does not mention the window, so the host may change it. -/
theorem State.ElapsedBounded.hostWrite (hs : s.ElapsedBounded) (p : Ports) : (s.hostWrite p).ElapsedBounded := by
  simpa [State.ElapsedBounded] using hs

/-- Settles O44: for each thing a port cycle can do, the bound after it. -/
theorem elapsedStaysBounded : Obligations.ElapsedStaysBounded := by
  intro p s t hs ht
  cases hrst : p.rst with
  | true =>
    obtain rfl := Host.Outcome.next.inj ((portCycle_rst p s hrst).symm.trans ht)
    exact State.elapsedBounded_of_stopped rfl
  | false =>
    rcases portCycle_cases (s := s) hrst with ⟨-, -, u, hu, hcycle⟩ | ⟨-, hcycle⟩ | ⟨-, hcycle⟩
    all_goals obtain rfl := Host.Outcome.next.inj (hcycle.symm.trans ht)
    · exact hu.elapsedBounded.hostWrite p
    · exact (State.elapsedBounded_of_idle rfl).hostWrite p
    · exact (hs.watch p.tick).hostWrite p

end Sys2Proof.Machine

/-! What the checksum detects (42_checksum_validator.md section 5). A payload validates exactly when its six pairs, the
field among them, have values whose XOR is 0, so the verdict does not depend on the order of the pairs, and a change of
one pair alone is always seen. -/

namespace Sys2Proof.Machine

variable {p q : Payload} {a b : Fin 6 → Byte} {i : Fin 6} {v : Byte}

/-- The XOR of the pairs in `K`. -/
def xorOver (K : Finset (Fin 6)) (a : Fin 6 → Byte) : Byte := K.fold (· ^^^ ·) 0#8 a

/-- The XOR of all six pairs. -/
def xorAll (a : Fin 6 → Byte) : Byte := xorOver Finset.univ a

theorem xorAll_eq (a : Fin 6 → Byte) : xorAll a = a 0 ^^^ a 1 ^^^ a 2 ^^^ a 3 ^^^ a 4 ^^^ a 5 := by
  have hfold : xorAll a = a 0 ^^^ (a 1 ^^^ (a 2 ^^^ (a 3 ^^^ (a 4 ^^^ (a 5 ^^^ 0#8))))) := rfl
  rw [hfold, BitVec.xor_zero]
  simp only [BitVec.xor_assoc]

theorem xorAll_perm (a : Fin 6 → Byte) (σ : Equiv.Perm (Fin 6)) : xorAll (a ∘ σ) = xorAll a := by
  have hmap : xorOver (Finset.univ.map σ.toEmbedding) a = xorOver Finset.univ (a ∘ σ) := Finset.fold_map
  rw [xorAll, ← hmap, Finset.univ_map_equiv_to_embedding, xorAll]

theorem xorAll_split (a : Fin 6 → Byte) (i : Fin 6) : xorAll a = a i ^^^ xorOver (Finset.univ.erase i) a := by
  have hinsert : xorOver (insert i (Finset.univ.erase i)) a = a i ^^^ xorOver (Finset.univ.erase i) a :=
    Finset.fold_insert (Finset.notMem_erase i _)
  rwa [Finset.insert_erase (Finset.mem_univ i)] at hinsert

/-- XOR-ing a value into one pair XORs it into the total. -/
theorem xorAll_update_xor (a : Fin 6 → Byte) (i : Fin 6) (v : Byte) :
    xorAll (Function.update a i (a i ^^^ v)) = xorAll a ^^^ v := by
  have hothers : xorOver (Finset.univ.erase i) (Function.update a i (a i ^^^ v)) = xorOver (Finset.univ.erase i) a :=
    Finset.fold_congr fun k hk => Function.update_of_ne (Finset.ne_of_mem_erase hk) _ _
  rw [xorAll_split _ i, hothers, Function.update_self, xorAll_split a i, BitVec.xor_assoc, BitVec.xor_comm v,
    ← BitVec.xor_assoc]

/-- Every position is the first or the second of a pair. -/
theorem position_cases (i : Fin 12) :
    ∃ k : Fin 6, i = ⟨2 * k.val, by omega⟩ ∨ i = ⟨2 * k.val + 1, by omega⟩ := by
  refine ⟨⟨i.val / 2, by omega⟩, ?_⟩
  simp only [Fin.ext_iff]
  omega

/-- A payload whose pairs all have values consists of hex characters. -/
theorem allHex_of_pair_some (ha : ∀ k, pair p k = some (a k)) : allHex p = true := by
  have hall (k : Fin 6) : ¬ (hexval p[2 * k.val] = none ∨ hexval p[2 * k.val + 1] = none) := by
    rw [← pair_eq_none, ha]
    exact Option.some_ne_none _
  refine (allHex_iff p).mpr fun i hoff => ?_
  obtain ⟨k, rfl | rfl⟩ := position_cases i
  · exact hall k (.inl hoff)
  · exact hall k (.inr hoff)

/-- The fold equals the field exactly when the six pairs cancel. -/
theorem checksumValid_iff_xorAll (ha : ∀ k, pair p k = some (a k)) : checksumValid p = true ↔ xorAll a = 0#8 := by
  rw [checksumValid_iff, xorfold_some (ha 0) (ha 1) (ha 2) (ha 3) (ha 4), ha 5, Option.some.injEq, xorAll_eq,
    BitVec.xor_eq_zero_iff]
  exact and_iff_right (allHex_of_pair_some ha)

theorem pairs_of_checksumValid (hp : checksumValid p = true) :
    ∃ a : Fin 6 → Byte, (∀ k, pair p k = some (a k)) ∧ xorAll a = 0#8 := by
  choose a ha using pair_some_of_allHex p (allHex_of_checksumValid p hp)
  exact ⟨a, ha, (checksumValid_iff_xorAll ha).mp hp⟩

/-- A payload with the pairs of a valid one, in any order, is valid. -/
theorem checksumValid_of_perm (σ : Equiv.Perm (Fin 6)) (hpair : ∀ k, pair q k = pair p (σ k))
    (hp : checksumValid p = true) : checksumValid q = true := by
  obtain ⟨a, ha, hzero⟩ := pairs_of_checksumValid hp
  have hq : ∀ k, pair q k = some ((a ∘ σ) k) := fun k => (hpair k).trans (ha (σ k))
  rw [checksumValid_iff_xorAll hq, xorAll_perm, hzero]

/-- The verdict does not depend on the order of the pairs. -/
theorem checksumValid_perm (σ : Equiv.Perm (Fin 6)) (hpair : ∀ k, pair q k = pair p (σ k)) :
    checksumValid q = checksumValid p := by
  have hback : ∀ k, pair p k = pair q (σ.symm k) := fun k => by rw [hpair, Equiv.apply_symm_apply]
  exact Bool.eq_iff_iff.mpr ⟨checksumValid_of_perm σ.symm hback, checksumValid_of_perm σ hpair⟩

/-- The exchange of two data pairs, among all six. -/
theorem pair_swap {i j : Fin 5} (hdata : ∀ k : Fin 5, q[2 * k.val] = p[2 * (Equiv.swap i j k).val] ∧
      q[2 * k.val + 1] = p[2 * (Equiv.swap i j k).val + 1]) (h10 : q[10] = p[10]) (h11 : q[11] = p[11]) (k : Fin 6) :
    pair q k = pair p (Equiv.swap i.castSucc j.castSucc k) := by
  cases k using Fin.lastCases with
  | last =>
    rw [Equiv.swap_apply_of_ne_of_ne (Fin.castSucc_ne_last i).symm (Fin.castSucc_ne_last j).symm]
    exact congrArg₂ hexPair h10 h11
  | cast k =>
    rw [(Fin.castSucc_injective 5).swap_apply]
    obtain ⟨hhigh, hlow⟩ := hdata k
    exact congrArg₂ hexPair hhigh hlow

/-- Settles O9: an exchange is a permutation of the pairs. -/
theorem swappedDataPairsStayValid : Obligations.SwappedDataPairsStayValid :=
  fun _ _ _ _ hdata h10 h11 => checksumValid_perm _ (pair_swap hdata h10 h11)

/-- The same value XOR-ed into two pairs cancels in the total. -/
theorem xorAll_same_mask {i j : Fin 6} (hij : i ≠ j) (hi : b i = a i ^^^ v) (hj : b j = a j ^^^ v)
    (hothers : ∀ k, k ≠ i → k ≠ j → b k = a k) : xorAll b = xorAll a := by
  have hstep : Function.update b j (b j ^^^ v) = Function.update a i (a i ^^^ v) := by
    have hback : b j ^^^ v = a j := by rw [hj, BitVec.xor_assoc, BitVec.xor_self, BitVec.xor_zero]
    refine Function.update_eq_iff.mpr ⟨?_, fun k hkj => ?_⟩
    · rw [Function.update_of_ne hij.symm, hback]
    · by_cases hki : k = i
      · rw [hki, Function.update_self, hi]
      · rw [Function.update_of_ne hki, hothers k hki hkj]
  have htotal : xorAll b ^^^ v = xorAll a ^^^ v := by rw [← xorAll_update_xor b j, hstep, xorAll_update_xor]
  exact (BitVec.xor_left_inj v).mp htotal

/-- Settles O10: both payloads have the same total. -/
theorem sameMaskInTwoPairsKeepsVerdict : Obligations.SameMaskInTwoPairsKeepsVerdict := by
  intro p q a b i j v ha hb hij hi hj hothers
  rw [Bool.eq_iff_iff, checksumValid_iff_xorAll ha, checksumValid_iff_xorAll hb, xorAll_same_mask hij hi hj hothers]

/-- Two valid payloads that agree in five pairs agree in the sixth: the five determine it. -/
theorem pair_eq_of_checksumValid (hp : checksumValid p = true) (hq : checksumValid q = true)
    (hothers : ∀ k, k ≠ i → pair q k = pair p k) : pair q i = pair p i := by
  obtain ⟨a, ha, hazero⟩ := pairs_of_checksumValid hp
  obtain ⟨b, hb, hbzero⟩ := pairs_of_checksumValid hq
  have hupdate : b = Function.update a i (a i ^^^ (a i ^^^ b i)) := by
    rw [← BitVec.xor_assoc, BitVec.xor_self, BitVec.zero_xor]
    refine Function.eq_update_iff.mpr ⟨rfl, fun k hk => ?_⟩
    exact Option.some.inj (by rw [← hb, ← ha, hothers k hk])
  have hdiff : a i ^^^ b i = 0#8 := by
    rw [hupdate, xorAll_update_xor, hazero, BitVec.zero_xor] at hbzero
    exact hbzero
  rw [ha, hb, BitVec.xor_eq_zero_iff.mp hdiff]

theorem hexval_some_of_hexPair {hi lo : Byte} (h : hexPair hi lo ≠ none) :
    ∃ x y, hexval hi = some x ∧ hexval lo = some y := by
  rw [ne_eq, hexPair_eq_none, not_or, ← ne_eq, ← ne_eq, Option.ne_none_iff_exists', Option.ne_none_iff_exists'] at h
  obtain ⟨⟨x, hx⟩, ⟨y, hy⟩⟩ := h
  exact ⟨x, y, hx, hy⟩

/-- The value of a pair determines the values of both its characters. -/
theorem hexval_eq_of_hexPair_eq {hi lo hi' lo' : Byte} (h : hexPair hi lo = hexPair hi' lo')
    (hsome : hexPair hi lo ≠ none) : hexval hi = hexval hi' ∧ hexval lo = hexval lo' := by
  obtain ⟨x, y, hx, hy⟩ := hexval_some_of_hexPair hsome
  obtain ⟨x', y', hx', hy'⟩ := hexval_some_of_hexPair (h ▸ hsome)
  rw [hexPair_some hx hy, hexPair_some hx' hy', Option.some.injEq] at h
  have hnumber : 16 * x.toNat + y.toNat = 16 * x'.toNat + y'.toNat := by
    rw [← hexPair_toNat, h, hexPair_toNat]
  have hyLt : y.toNat < 16 := y.isLt
  have hyLt' : y'.toNat < 16 := y'.isLt
  have hxEq : x = x' := BitVec.eq_of_toNat_eq (by omega)
  have hyEq : y = y' := BitVec.eq_of_toNat_eq (by omega)
  exact ⟨by rw [hx, hx', hxEq], by rw [hy, hy', hyEq]⟩

/-- A pair depends on its characters through their values only: letter case does not enter. -/
theorem hexPair_congr {hi lo hi' lo' : Byte} (hhigh : hexval hi = hexval hi') (hlow : hexval lo = hexval lo') :
    hexPair hi lo = hexPair hi' lo' := by
  simp only [hexPair, hhigh, hlow]

/-- A character of the same value in one place changes no pair. -/
theorem pair_set_of_hexval_eq {i : Fin 12} {c : Byte} (hc : hexval c = hexval p[i.val]) (k : Fin 6) :
    pair (p.set i.val c) k = pair p k := by
  have hsame (j : Nat) (hj : j < 12) : hexval (p.set i.val c)[j] = hexval p[j] := by
    rw [Vector.getElem_set]
    split_ifs with hij
    · subst hij
      exact hc
    · rfl
  exact hexPair_congr (hsame _ _) (hsame _ _)

/-- A character enters its own pair only. -/
theorem pair_set_of_ne {i : Fin 12} {k j : Fin 6} (c : Byte) (hi : i.val = 2 * k.val ∨ i.val = 2 * k.val + 1)
    (hj : j ≠ k) : pair (p.set i.val c) j = pair p j := by
  have hne : j.val ≠ k.val := Fin.val_ne_of_ne hj
  exact congrArg₂ hexPair (Vector.getElem_set_ne _ _ (by omega)) (Vector.getElem_set_ne _ _ (by omega))

/-- A valid payload that stays valid with another character in one place had that value there before. -/
theorem hexval_eq_of_checksumValid_set {i : Fin 12} {c : Byte} (hp : checksumValid p = true)
    (hq : checksumValid (p.set i.val c) = true) : hexval c = hexval p[i.val] := by
  have hsome (k : Fin 6) : pair (p.set i.val c) k ≠ none :=
    Option.ne_none_iff_exists'.mpr (pair_some_of_allHex _ (allHex_of_checksumValid _ hq) k)
  obtain ⟨k, rfl | rfl⟩ := position_cases i
  · have hpair := pair_eq_of_checksumValid hp hq fun j => pair_set_of_ne c (.inl rfl)
    obtain ⟨hhigh, -⟩ := hexval_eq_of_hexPair_eq hpair (hsome k)
    rwa [Vector.getElem_set_self] at hhigh
  · have hpair := pair_eq_of_checksumValid hp hq fun j => pair_set_of_ne c (.inr rfl)
    obtain ⟨-, hlow⟩ := hexval_eq_of_hexPair_eq hpair (hsome k)
    rwa [Vector.getElem_set_self] at hlow

/-- Settles O8: `hexval_eq_of_checksumValid_set`, and an equal value changes no pair. -/
theorem oneChangedDigitInvalidates : Obligations.OneChangedDigitInvalidates := by
  intro p i c hp _
  refine ⟨fun hdiff => ?invalid, fun hsame => ?valid⟩
  case invalid => exact Bool.eq_false_iff.mpr fun hq => hdiff (hexval_eq_of_checksumValid_set hp hq)
  case valid => exact checksumValid_of_perm (Equiv.refl _) (pair_set_of_hexval_eq hsame) hp

end Sys2Proof.Machine

/-! After reset (10_state.md section 9, 70_reset_and_hazards.md R191): the invariants hold, and what the ports show. -/

namespace Sys2Proof.Machine

/-- Settles O48: `State.Inv.reset`; no pulse is set and no invocation runs. -/
theorem resetStateMeetsInvariants : Obligations.ResetStateMeetsInvariants :=
  ⟨State.Inv.reset, (State.PulseFree.pulsedOnce ⟨rfl, rfl, rfl⟩).pulseInv, State.elapsedBounded_of_stopped rfl⟩

theorem reset_outputs (a : CfgAddr) : State.reset.outputs a = {
    busy := false, done := false, tagBin := 0#32, tagAscii := 0x30303030303030303030#80, rxReady := false,
    reconnectReq := false, diag := 0#6,
    cfgRdata := if a = 0#2 then 0x000A#16 else if a = 2#2 then 0x0002#16 else 0#16 } := by
  revert a
  decide

/-- Settles O38: `reset_outputs`; the outputs show nothing of `buf` and of the model's own fields, where the state after
`RESET` may differ (`exec_reset`). -/
theorem outputsAfterReset : Obligations.OutputsAfterReset := by
  intro s t ht u hu a
  obtain rfl := Host.Outcome.next.inj ((exec_reset s).symm.trans ht)
  rw [← reset_outputs a]
  rcases hu with rfl | rfl <;> rfl

end Sys2Proof.Machine
